-- ==== Sys2Proof/Word.lean ====
section
/-! DEFINITION. The number types of the KD-2412: bytes of a link frame, complex pairs of exact integers,
and the numberings of towers, patterns, positions, contact lines and ports (spec/00, Conventions). -/

namespace Sys2Proof

/-- One byte of a frame on a link (R176). -/
abbrev Byte := BitVec 8

/-- A two-byte operand of a request (R178). -/
abbrev Half := BitVec 16

/-- A three-byte operand: a second of the day or an entry time (R178). -/
abbrev Triple := BitVec 24

/-- A complex quantity: a weight, a sample, a drive value or a phasor (spec/00, Weights, samples and drive values).
Every product and sum is formed exactly, so the components are integers. -/
structure Cpx where
  re : Int
  im : Int
  deriving DecidableEq, Repr

/-- The pair (0, 0). -/
def Cpx.zero : Cpx := ⟨0, 0⟩

/-- A tower: tower number k of the manual is the index k − 1. -/
abbrev Tower := Fin 12

/-- A pattern number 0 to 7. -/
abbrev Slot := Fin 8

/-- A feed network position 0 to 3. -/
abbrev Pos := Fin 4

/-- A contact line: line k of the manual is the index k − 1. -/
abbrev Line := Fin 4

/-- The electrical levels of the four contact lines that come with a tick of the reference clock; bit k − 1 is line k's.
The tick samples the lines at `sampled`, and they stand at `behind` from then until the next tick (R155, R156, R158;
DESIGN CHOICE, log entry 3). -/
structure TickLevels where
  sampled : BitVec 4
  behind : BitVec 4
  deriving DecidableEq, Repr

/-- The two source ports. -/
inductive Port where
  | A
  | B
  deriving DecidableEq, Repr

/-- The port that is not this one. -/
def Port.other : Port → Port
  | .A => .B
  | .B => .A

/-- The twelve towers in ascending order of tower number. -/
def allTowers : List Tower := [0, 1, 2, 3, 4, 5, 6, 7, 8, 9, 10, 11]

/-- The eight pattern slots in ascending order. -/
def allSlots : List Slot := [0, 1, 2, 3, 4, 5, 6, 7]

/-- The four contact lines in ascending order. -/
def allLines : List Line := [0, 1, 2, 3]

end Sys2Proof
end

