-- ==== Sys2Proof/Config.lean ====
section
/-! DEFINITION. The fixed numbers of the part. The manual leaves no result of a command undefined, so the
configuration holds no free value. -/

namespace Sys2Proof.Config

/-- The Shift Queue holds up to 4 orders (R56). -/
def queueDepth : Nat := 4

/-- The Schedule Table holds at most 24 entries (R150). -/
def scheduleDepth : Nat := 24

/-- The Sample Buffer holds at most 16 samples (R139). -/
def bufferDepth : Nat := 16

/-- The Sample Buffer becomes RUNNING at its eighth sample (R140). -/
def primingDepth : Nat := 8

/-- The largest value of every saturating counter and of a port's last-frame age (R31, R117, R131, R143). -/
def counterTop : Nat := 65535

/-- The largest magnitude of a stored weight component and of a drive component (R22, R31). -/
def weightTop : Int := 32767

/-- 16384 stands for a weight of 1.0 (R22, R30). -/
def unity : Int := 16384

/-- Power caps and the ceiling are counted in units of 65536 of raw power (spec/00, Power; R12). -/
def capUnit : Nat := 65536

/-- The switch wait stops at 5000 (R69). -/
def switchWaitTop : Nat := 5000

/-- At most 8 links are examined by fallback resolution (R106). -/
def maxLinks : Nat := 8

/-- A consecutive-failure count of 15 stays at 15 (R95). -/
def failCountTop : Nat := 15

end Sys2Proof.Config
end

