-- ==== Sys2Proof/Syntax.lean ====
section
/-! DEFINITION. The commands of the KD-2412, one constructor for each row of spec/opcode_table.json.
A request row carries the port, the tag and the operand bytes of R178; a frame row carries the bytes that
arrive; an event row of a tick carries the tower, port or line it belongs to. -/

namespace Sys2Proof

/-- The commands, in the order of the table. -/
inductive Instr where
  /-- Release of the reset pin; bit k − 1 of `levels` is the electrical level of contact line k (R147, R155). -/
  | powerOnReset (levels : BitVec 4)
  /-- One tick of the reference clock, with the levels of the contact lines (R146, R155, R156; log entry 3). -/
  | millisecondTick (levels : TickLevels)
  /-- One expiry of the frame timer (R147). -/
  | frameTimerExpiry
  /-- The bytes of a Sample Frame arrive on a source port (R130, R135). -/
  | sampleFrame (port : Port) (bytes : List Byte)
  /-- The bytes of a Request Frame arrive on a source port (R130, R161). -/
  | requestFrame (port : Port) (bytes : List Byte)
  /-- The bytes of an Idle Frame arrive on a source port (R130). -/
  | idleFrame (port : Port) (bytes : List Byte)
  /-- The bytes of a Tower Return Frame arrive on the Tower Link (R117). -/
  | towerReturnFrame (bytes : List Byte)
  /-- The step timer has reached 0 at the last tick (R64). -/
  | stepTimerExpiry
  /-- The switch wait stands at or above TRAVEL_LIMIT at the last tick (R69). -/
  | switchWaitTimeout
  /-- The travel timer of a tower has reached TRAVEL_LIMIT at the last tick (R47). -/
  | travelLimitReached (tower : Nat)
  /-- The silence timer of a tower has reached SILENCE_TIME at the last tick (R122). -/
  | silenceTimeReached (tower : Nat)
  /-- The window timer has reached the window limit at the last tick (R87). -/
  | windowLimitReached
  /-- A present port's age stands at or above HOLDOVER at the last tick (R131). -/
  | holdoverExpiry (port : Port)
  /-- The LIVE owner's age stands at or above HOLDOVER at the last tick (R136). -/
  | ownerLoss
  /-- The sub-second count would reach 1000 at the last tick (R148). -/
  | secondAdvance
  /-- The debounce count of a line exceeds DEBOUNCE at the last tick (R156). -/
  | contactDebouncedChange (line : Nat)
  | stationSetupArraySize (port : Port) (tag : Byte) (value : Half)
  | stationSetupFrameRate (port : Port) (tag : Byte) (value : Half)
  | stationSetupStepPeriod (port : Port) (tag : Byte) (value : Half)
  | stationSetupDropLength (port : Port) (tag : Byte) (value : Half)
  | stationSetupCeiling (port : Port) (tag : Byte) (value : Half)
  | stationSetupTravelWarn (port : Port) (tag : Byte) (value : Half)
  | stationSetupTravelLimit (port : Port) (tag : Byte) (value : Half)
  | stationSetupSilenceTime (port : Port) (tag : Byte) (value : Half)
  | stationSetupMonWindow (port : Port) (tag : Byte) (value : Half)
  | stationSetupWindowLimit (port : Port) (tag : Byte) (value : Half)
  | stationSetupVerifyTries (port : Port) (tag : Byte) (value : Half)
  | stationSetupFailLimit (port : Port) (tag : Byte) (value : Half)
  | stationSetupHoldover (port : Port) (tag : Byte) (value : Half)
  | stationSetupDebounce (port : Port) (tag : Byte) (value : Half)
  /-- `setting` is 1 to 14, or 255 for all (R166, R178). -/
  | stationQuery (port : Port) (tag : Byte) (setting : Byte)
  | statusQuery (port : Port) (tag : Byte)
  | counterClear (port : Port) (tag : Byte)
  | unitReset (port : Port) (tag : Byte)
  | noticeSetup (port : Port) (tag : Byte) (source enable level : Byte)
  | patternOpen (port : Port) (tag : Byte) (pattern : Byte)
  | patternHeader (port : Port) (tag : Byte) (pattern reference park : Byte) (cap ramp trimLimit : Half)
      (fallback option : Byte)
  | towerEntry (port : Port) (tag : Byte) (pattern tower : Byte) (weightRe weightIm : Half) (position : Byte)
      (expectedRe expectedIm : Half) (tolerance : Byte)
  | towerEntryRemove (port : Port) (tag : Byte) (pattern tower : Byte)
  | patternClose (port : Port) (tag : Byte) (pattern : Byte)
  | patternErase (port : Port) (tag : Byte) (pattern : Byte)
  | patternRead (port : Port) (tag : Byte) (pattern item : Byte)
  | weightTrim (port : Port) (tag : Byte) (pattern tower : Byte) (deltaRe deltaIm : Half)
  | shift (port : Port) (tag : Byte) (pattern : Byte)
  | shiftCancel (port : Port) (tag : Byte)
  | abort (port : Port) (tag : Byte)
  | towerLockout (port : Port) (tag : Byte) (tower value : Byte)
  | towerRestore (port : Port) (tag : Byte) (tower : Byte)
  | towerStatus (port : Port) (tag : Byte) (tower : Byte)
  | timeSet (port : Port) (tag : Byte) (second : Triple) (weekday : Byte)
  | scheduleAdd (port : Port) (tag : Byte) (time : Triple) (weekdays pattern : Byte)
  | scheduleDelete (port : Port) (tag : Byte) (time : Triple)
  | scheduleClear (port : Port) (tag : Byte)
  | scheduleHold (port : Port) (tag : Byte) (value : Byte)
  | scheduleRead (port : Port) (tag : Byte) (item : Byte)
  | contactSetup (port : Port) (tag : Byte) (line sense action patternP patternQ : Byte)
  | setPreferredPort (port : Port) (tag : Byte) (operand : Byte)
  | setChangeoverMode (port : Port) (tag : Byte) (operand : Byte)
  | clearBar (port : Port) (tag : Byte) (operand : Byte)
  | forceOwner (port : Port) (tag : Byte) (operand : Byte)
  /-- The bytes of a frame that fails its check arrive on a source port (R130). -/
  | discardedSourceFrame (port : Port) (bytes : List Byte)
  deriving DecidableEq, Repr

end Sys2Proof
end

