-- ==== Sys2Proof/Decode.lean ====
section
/-! DEFINITION. The receipt of frames: the frame check and the layouts of the source frames and of the Tower
Return Frame (R176, R177, R181), and the decoder of the opcode table's words. The table gives bits for no row,
so the latter reads no word. -/

namespace Sys2Proof

/-- The command that a word of the opcode table spells: no row of the table gives bits, so no word spells one. -/
def decodeTableWord (_nbits _w : Nat) : Option Instr := none

/-- Byte `k` of a frame or payload, counted from 0. -/
def byteAt (bs : List Byte) (k : Nat) : Byte := bs.getD k 0

/-- The unsigned two-byte field whose first byte is byte `k`: most significant byte first (R176). -/
def wordAt (bs : List Byte) (k : Nat) : Nat := (byteAt bs k).toNat * 256 + (byteAt bs (k + 1)).toNat

/-- The two's complement reading of a two-byte field (R176). -/
def signed16 (w : Nat) : Int := if w < 32768 then (w : Int) else (w : Int) - 65536

/-- The signed two-byte field whose first byte is byte `k` (R176). -/
def signedAt (bs : List Byte) (k : Nat) : Int := signed16 (wordAt bs k)

/-- The pair of signed two-byte fields whose first byte is byte `k`. -/
def pairAt (bs : List Byte) (k : Nat) : Cpx := ⟨signedAt bs k, signedAt bs (k + 2)⟩

/-- The sum of bytes modulo 65536 (R176, the frame check). -/
def byteSum (bs : List Byte) : Nat := (bs.foldl (fun n b => n + b.toNat) 0) % 65536

/-- A frame of `len` bytes whose last two bytes are the sum of the preceding ones (R176). -/
def frameGood (len : Nat) (bs : List Byte) : Bool :=
  bs.length == len && wordAt bs (len - 2) == byteSum (bs.take (len - 2))

/-- What a good source frame holds (R130, R177). -/
inductive SourceFrame where
  | sample (value : Cpx) (claim : Bool)
  | requestFirst (count : Nat) (code tag : Byte) (payload : List Byte)
  | requestNext (payload : List Byte)
  | idle
  deriving DecidableEq, Repr

/-- The source frame that the bytes spell, or none where the length, the check or the kind is wrong (R130, R176, R177). -/
def decodeSourceFrame (bs : List Byte) : Option SourceFrame :=
  if byteAt bs 0 = 1 then
    if frameGood 8 bs then some (.sample (pairAt bs 2) ((byteAt bs 1).getLsbD 0)) else none
  else if byteAt bs 0 = 2 then
    if frameGood 10 bs then
      if (byteAt bs 1).getLsbD 7 then
        some (.requestFirst ((byteAt bs 1).toNat % 8) (byteAt bs 2) (byteAt bs 3) ((bs.drop 4).take 3))
      else some (.requestNext ((bs.drop 2).take 6))
    else none
  else if byteAt bs 0 = 3 then
    if frameGood 3 bs then some .idle else none
  else none

/-- The network report of a return slot (R37). -/
inductive NetReport where
  | settled (position : Pos)
  | travel
  deriving DecidableEq, Repr

/-- The four reports of a filled return slot: the network report, the PA report, and the phasor where its
phasor-valid flag is set (R118, R181). -/
structure SlotReport where
  network : NetReport
  paFault : Bool
  phasor : Option Cpx
  deriving DecidableEq, Repr

/-- One return slot of five bytes; none where the filled bit is clear (R181). -/
def decodeReturnSlot (bs : List Byte) : Option SlotReport :=
  let b := byteAt bs 0
  if b.getLsbD 7 then
    some
      { network := if b.getLsbD 6 then .travel else .settled ⟨b.toNat / 16 % 4, Nat.mod_lt _ (by decide)⟩
        paFault := b.getLsbD 3
        phasor := if b.getLsbD 2 then some (pairAt bs 1) else none }
  else none

/-- The twelve return slots of a good Tower Return Frame, tower 1 first; none where the frame fails its length,
its check or its kind (R117, R176, R181). -/
def decodeTowerReturn (bs : List Byte) : Option (List (Tower × Option SlotReport)) :=
  if byteAt bs 0 = 225 && frameGood 63 bs then
    some (allTowers.map fun t => (t, decodeReturnSlot ((bs.drop (1 + 5 * t.val)).take 5)))
  else none

end Sys2Proof
end

