-- ==== Sys2Proof/Machine/State.lean ====
section
/-! DEFINITION. The state of the KD-2412, block by block, and its values at power-on reset. Everything is plain
data. `State.due` and `State.pending` are the model's own: the events of the last tick not yet taken, and the
queue of commands that wait (assumption log, entries 1 and 2). -/

namespace Sys2Proof.Machine

/-- No command of this part stops with a fault: every event of the manual has an effect on the state (safe: the
type is empty). -/
inductive Fault where
  deriving DecidableEq, Repr

/-- The reasons for which the model gives no next state. -/
inductive Refusal where
  /-- Raised by an arm of `exec` whose command has no meaning yet; none is left (safe: the model stops). -/
  | notModelled (mnemonic : String)
  deriving DecidableEq, Repr

/-- The fourteen station settings (R165). STEP_PERIOD is also the step timer's reload value (R64, R65). -/
structure Settings where
  arraySize : Nat
  frameRate : Nat
  stepPeriod : Nat
  dropLength : Nat
  ceiling : Nat
  travelWarn : Nat
  travelLimit : Nat
  silenceTime : Nat
  monWindow : Nat
  windowLimit : Nat
  verifyTries : Nat
  failLimit : Nat
  holdover : Nat
  debounce : Nat
  deriving DecidableEq, Repr

/-! ### Pattern Table (chapter 1) -/

/-- The seven header fields of an OPEN or READY record (R1). -/
structure Header where
  reference : Option Tower
  park : Pos
  cap : Nat
  ramp : Nat
  trimLimit : Nat
  fallback : Option Slot
  monitorFallback : Bool
  deriving DecidableEq, Repr

/-- A tower entry (R2). -/
structure Entry where
  tower : Tower
  loaded : Cpx
  position : Pos
  expected : Cpx
  tolerance : Nat
  trim : Cpx
  deriving DecidableEq, Repr

/-- A pattern record: EMPTY, OPEN or READY (R1). -/
inductive PatternRecord where
  | empty
  | opened (header : Header) (entries : List Entry)
  | ready (header : Header) (entries : List Entry)
  deriving DecidableEq, Repr

/-! ### Weighting Engine (chapter 2) -/

/-- The Live Weight Set and the saturation counters (R22, R31). The mute state is `State.mute`, derived from the
contact lines (R34). -/
structure Engine where
  live : Vector Cpx 12
  saturation : Vector Nat 12
  deriving DecidableEq, Repr

/-! ### Network Controller (chapter 3) -/

/-- The network states, with the position of SETTLED and the destination and starting position of MOVING (R36). -/
inductive NetState where
  | unknown
  | settled (position : Pos)
  | moving (destination start : Pos)
  | jammed
  | drifting
  deriving DecidableEq, Repr

/-- One network record (R36). -/
structure NetRecord where
  state : NetState
  commanded : Option Pos
  travelTimer : Nat
  lastTravel : Nat
  deriving DecidableEq, Repr

/-! ### Shift Controller (chapters 4 and 6) -/

/-- The causes of an order and of a transition (R55, R180). -/
inductive OrderCause where
  | manual
  | schedule
  | contact
  | fallback
  | abort
  | safe
  deriving DecidableEq, Repr

/-- The origin of an order (R56). -/
inductive Origin where
  | port (p : Port)
  | time (second : Nat)
  | line (l : Line)
  | pattern (p : Slot)
  deriving DecidableEq, Repr

/-- A shift order (R56). -/
structure Order where
  target : Option Slot
  cause : OrderCause
  origin : Origin
  deriving DecidableEq, Repr

/-- The phases of a transition (R55). -/
inductive Phase where
  | drop
  | switch
  | cross
  | verify
  deriving DecidableEq, Repr

/-- The settled state the array was in before the chain of transitions began (R55). -/
inductive Prior where
  | noPattern
  | steady
  | safe
  deriving DecidableEq, Repr

/-- The reasons a reply, a notice or the last failure record carries (R180). -/
inductive Reason where
  | noEntries
  | noReference
  | zeroExpected
  | capAboveCeiling
  | capExceeded
  | notReady
  | notUsable
  | jammed
  | towerFault
  | verifyFail
  | aborted
  | monitorOut
  | secondFailure
  | noFallback
  | held
  | safe
  | queueFull
  deriving DecidableEq, Repr

/-- The transition context (R55), with the end vector B of a CROSS (R70) and, in a safe drop, the failed pattern
and the reason that SAFE_ENTERED reports at its end (R111). -/
structure Context where
  source : Option Slot
  prior : Prior
  target : Option Slot
  cause : OrderCause
  origin : Option Origin
  phase : Phase
  switchSet : List Tower
  stepCount : Nat
  stepTotal : Option Nat
  startA : Vector Cpx 12
  endB : Vector Cpx 12
  switchWait : Nat
  verifyUsed : Nat
  safeFor : Option (Slot × Reason)
  deriving DecidableEq, Repr

/-- The array states (R54). -/
inductive ArrayState where
  | noPattern
  | steady (live : Slot)
  | shifting (context : Context)
  | safe
  deriving DecidableEq, Repr

/-- What kind of failure the last failure record tells of (R108). -/
inductive FailureKind where
  | none
  | transition
  | steady
  deriving DecidableEq, Repr

/-- How a failure was answered (R108). -/
inductive FailureOutcome where
  | fallback
  | safeDrop
  deriving DecidableEq, Repr

/-- The last failure record (R108). -/
structure LastFailure where
  kind : FailureKind
  pattern : Option Slot
  reason : Option Reason
  tower : Option Tower
  cause : Option OrderCause
  flag : Option Bool
  links : Nat
  outcome : Option FailureOutcome
  fallback : Option Slot
  dropReason : Option Reason
  deriving DecidableEq, Repr

/-- The record after either reset: kind NONE, every other field none, links examined 0 (R108). -/
def LastFailure.clear : LastFailure :=
  { kind := .none, pattern := none, reason := none, tower := none, cause := none, flag := none, links := 0,
    outcome := none, fallback := none, dropReason := none }

/-- The step timer; its reload value is the STEP_PERIOD setting (R64, R65). -/
structure StepTimer where
  counter : Nat
  running : Bool
  deriving DecidableEq, Repr

/-- The Shift Controller (R54, R56, R64, R104, R108). -/
structure Shift where
  array : ArrayState
  queue : List Order
  timer : StepTimer
  fallbackFlag : Bool
  lastFailure : LastFailure
  deriving DecidableEq, Repr

/-! ### Array Monitor (chapter 5) -/

/-- The monitor duty (R82). -/
inductive Duty where
  | none
  | steady (pattern : Slot)
  | verify (pattern : Slot)
  deriving DecidableEq, Repr

/-- The expected phasor and tolerance of a tested tower other than the reference (R85). -/
structure TestEntry where
  tower : Tower
  expected : Cpx
  tolerance : Nat
  deriving DecidableEq, Repr

/-- The accumulator of one tower: report count and the exact sums (R82). -/
structure Accumulator where
  count : Nat
  sum : Cpx
  deriving DecidableEq, Repr

/-- A COLLECTING window; its tested set is the reference tower and the towers of `tests` (R82, R85). -/
structure Window where
  pattern : Slot
  reference : Tower
  tests : List TestEntry
  reports : Nat
  limit : Nat
  timer : Nat
  acc : Vector Accumulator 12
  deriving DecidableEq, Repr

/-- The judgements of a window (R83). -/
inductive Verdict where
  | pass
  | fail
  | silent
  | untested
  | refSilent
  deriving DecidableEq, Repr

/-- One monitor record (R83). -/
structure MonRecord where
  average : Cpx
  deviation : Nat
  outcome : Verdict
  failCount : Nat
  out : Bool
  windows : Nat
  deriving DecidableEq, Repr

/-- The monitor record after either reset (R83). -/
def MonRecord.initial : MonRecord :=
  { average := Cpx.zero, deviation := 0, outcome := .untested, failCount := 0, out := false, windows := 0 }

/-- The Array Monitor; `window` is none while the window is IDLE (R82, R83). -/
structure Monitor where
  duty : Duty
  window : Option Window
  records : Vector MonRecord 12
  deriving DecidableEq, Repr

/-! ### Tower Link Port (chapter 7) -/

/-- The unusable causes (R120). -/
inductive UnusableCause where
  | paFault
  | silent
  | jammed
  | wrongPosition
  | upset
  deriving DecidableEq, Repr

/-- A set of unusable causes, one flag each, so that each cause is held once (R120). -/
structure Causes where
  paFault : Bool
  silent : Bool
  jammed : Bool
  wrongPosition : Bool
  upset : Bool
  deriving DecidableEq, Repr

/-- The empty set of causes. -/
def Causes.none : Causes :=
  { paFault := false, silent := false, jammed := false, wrongPosition := false, upset := false }

/-- One entry of the Tower Table (R120). -/
structure TowerEntry where
  present : Bool
  paFault : Bool
  lockout : Bool
  causes : Causes
  silenceTimer : Nat
  silenceRunning : Bool
  lastSlot : Option SlotReport
  deriving DecidableEq, Repr

/-- The Tower Table, the return frame error counter, and the Drive Frame last emitted (R115, R117, R120). -/
structure TowerLink where
  towers : Vector TowerEntry 12
  returnErrors : Nat
  driveFrame : List Byte
  deriving DecidableEq, Repr

/-! ### Source ports, Source Selector and Sample Buffer (chapters 8 and 10) -/

/-- A request assembly (R161). -/
inductive Assembly where
  | idle
  | assembling (code tag : Byte) (count taken : Nat) (payload : List Byte)
  deriving DecidableEq, Repr

/-- The reply codes (R164). -/
inductive ReplyCode where
  | ok
  | accepted
  | badRequest
  | badValue
  | badState
  | inUse
  | busy
  | collision
  | queueFull
  | notUsable
  | checkFailed
  | tableFull
  | duplicate
  | notFound
  deriving DecidableEq, Repr

/-- A reply: its code, the reason of CHECK_FAILED, and the value bytes (R164, R178). -/
structure Reply where
  code : ReplyCode
  reason : Option Reason
  values : List Byte
  deriving DecidableEq, Repr

/-- A FULL reply slot: the request code and tag it answers, the reply, and the reply frames already sent (R163). -/
structure ReplySlot where
  request : Byte
  tag : Byte
  reply : Reply
  sent : Nat
  deriving DecidableEq, Repr

/-- One source port, with the Return Frame it last sent (R131, R132, R143, R161, R163, R170). -/
structure PortState where
  age : Nat
  present : Bool
  barred : Bool
  frameErrors : Nat
  discarded : Nat
  overruns : Nat
  assembly : Assembly
  slot : Option ReplySlot
  returnFrame : List Byte
  deriving DecidableEq, Repr

/-- The owner condition (R132). -/
inductive OwnerCondition where
  | live
  | lost
  deriving DecidableEq, Repr

/-- The changeover mode (R132). -/
inductive ChangeoverMode where
  | auto
  | manual
  deriving DecidableEq, Repr

/-- The Source Selector; the barred flags stand with the ports (R132). -/
structure Selector where
  owner : Port
  condition : OwnerCondition
  mode : ChangeoverMode
  preferred : Port
  deriving DecidableEq, Repr

/-- The states of the Sample Buffer (R139). -/
inductive BufferState where
  | priming
  | running
  deriving DecidableEq, Repr

/-- The Sample Buffer, oldest sample first (R139). -/
structure Buffer where
  fifo : List Cpx
  state : BufferState
  held : Cpx
  underruns : Nat
  overruns : Nat
  deriving DecidableEq, Repr

/-! ### Timebase, Schedule Table and Contact Inputs (chapter 9) -/

/-- The clock state (R148). -/
inductive ClockState where
  | unset
  | running
  deriving DecidableEq, Repr

/-- The clock of day (R148) and the frame timer, counted in expiries since it was last started, modulo FRAME_RATE (R147). -/
structure Timebase where
  clock : ClockState
  second : Nat
  weekday : Fin 7
  subsecond : Nat
  frameTimer : Nat
  deriving DecidableEq, Repr

/-- One schedule entry; bit d of `days` stands for weekday d (R150, R178). -/
structure ScheduleEntry where
  time : Nat
  days : BitVec 7
  pattern : Slot
  deriving DecidableEq, Repr

/-- The Schedule Table (R150). -/
structure Schedule where
  entries : List ScheduleEntry
  hold : Bool
  deriving DecidableEq, Repr

/-- The sense of a contact line (R155). -/
inductive Sense where
  | activeHigh
  | activeLow
  deriving DecidableEq, Repr

/-- The action of a contact line (R155). -/
inductive Action where
  | none
  | shiftOnActive (p : Slot)
  | shiftPair (p q : Slot)
  | mute
  deriving DecidableEq, Repr

/-- One contact line. Electrical levels are true for high: `input` is the level that the last tick sampled (R156), and
`pin` the level at which the line stands now (R155; log entry 3). -/
structure ContactLine where
  sense : Sense
  action : Action
  active : Bool
  count : Nat
  input : Bool
  pin : Bool
  deriving DecidableEq, Repr

/-! ### Notice Selector (chapter 10) -/

/-- A notice with its payload, in the order of the sources (R172). -/
inductive Notice where
  | safeEntered (failed : Slot) (reason : Reason)
  | towerFault (tower : Tower) (cause : UnusableCause)
  | shiftFailed (target : Option Slot) (reason : Reason) (verify : Option (Tower × Verdict × Nat))
  | fallbackStarted (failed fallback : Slot) (reason : Reason)
  | monitorOut (tower : Tower) (deviation : Nat)
  | sourceContention (port : Port)
  | driveLost (port : Port)
  | changeover (port : Port)
  | shiftDone (target : Option Slot) (cause : OrderCause) (windows : Nat)
  | contactorSlow (tower : Tower) (time : Nat)
  | scheduleSkipped (time : Nat) (reason : Reason)
  | saturation (lowest : Tower) (number : Nat)
  | orderDiscarded (target : Option Slot) (cause : OrderCause) (origin : Origin)
  deriving DecidableEq, Repr

/-- The two levels of a notice source (R172). -/
inductive Level where
  | routine
  | urgent
  deriving DecidableEq, Repr

/-- One notice source; it is pending while it holds a payload (R172). -/
structure NoticeSource where
  enabled : Bool
  level : Level
  pending : Option Notice
  repeated : Bool
  deriving DecidableEq, Repr

/-! ### The whole part -/

/-- The events that a tick can bring about, in the order of the blocks in R146's table. -/
inductive TickEvent where
  | stepTimer
  | switchWait
  | travel (t : Tower)
  | silence (t : Tower)
  | windowLimit
  | holdover (p : Port)
  | ownerLoss
  | second
  | contact (l : Line)
  deriving DecidableEq, Repr

/-- The state of the part: one field a block, then the model's own two queues. -/
@[ext]
structure State where
  settings : Settings
  patterns : Vector PatternRecord 8
  engine : Engine
  nets : Vector NetRecord 12
  shift : Shift
  monitor : Monitor
  link : TowerLink
  portA : PortState
  portB : PortState
  selector : Selector
  buffer : Buffer
  timebase : Timebase
  schedule : Schedule
  lines : Vector ContactLine 4
  notices : Vector NoticeSource 13
  due : List TickEvent
  pending : List Instr
  deriving DecidableEq, Repr

/-! ### Values at power-on reset -/

/-- The power-on values of the settings (R165). -/
def Settings.initial : Settings :=
  { arraySize := 12, frameRate := 32000, stepPeriod := 1, dropLength := 50, ceiling := 49152, travelWarn := 250,
    travelLimit := 1000, silenceTime := 20, monWindow := 8, windowLimit := 2000, verifyTries := 2, failLimit := 3,
    holdover := 50, debounce := 10 }

/-- A network record at power-on reset (R36). -/
def NetRecord.initial : NetRecord :=
  { state := .unknown, commanded := none, travelTimer := 0, lastTravel := 0 }

/-- A Tower Table entry at power-on reset; every silence timer runs, since ARRAY_SIZE is 12 (R120). -/
def TowerEntry.initial : TowerEntry :=
  { present := false, paFault := false, lockout := false, causes := Causes.none, silenceTimer := 0,
    silenceRunning := true, lastSlot := none }

/-- A source port at power-on reset (R131, R132, R143, R161, R163). -/
def PortState.initial : PortState :=
  { age := 0, present := false, barred := false, frameErrors := 0, discarded := 0, overruns := 0,
    assembly := .idle, slot := none, returnFrame := [] }

/-- A contact line at power-on reset whose pin stands at `input`: active-high, so the debounced level is the
electrical level (R155). -/
def ContactLine.initial (input : Bool) : ContactLine :=
  { sense := .activeHigh, action := .none, active := input, count := 0, input := input, pin := input }

/-- A notice source at power-on reset (R172). -/
def NoticeSource.initial (level : Level) : NoticeSource :=
  { enabled := true, level := level, pending := none, repeated := false }

/-- The thirteen sources at power-on reset: the first five URGENT, the others ROUTINE (R172). -/
def initialNotices : Vector NoticeSource 13 :=
  #v[.initial .urgent, .initial .urgent, .initial .urgent, .initial .urgent, .initial .urgent, .initial .routine,
    .initial .routine, .initial .routine, .initial .routine, .initial .routine, .initial .routine,
    .initial .routine, .initial .routine]

/-- The part right after power-on reset, with the contact lines at the given electrical levels (bit k − 1 for line k). -/
def State.powerOn (levels : BitVec 4) : State :=
  { settings := .initial
    patterns := Vector.replicate 8 .empty
    engine := { live := Vector.replicate 12 Cpx.zero, saturation := Vector.replicate 12 0 }
    nets := Vector.replicate 12 .initial
    shift :=
      { array := .noPattern, queue := [], timer := { counter := 1, running := false }, fallbackFlag := false,
        lastFailure := .clear }
    monitor := { duty := .none, window := none, records := Vector.replicate 12 .initial }
    link := { towers := Vector.replicate 12 .initial, returnErrors := 0, driveFrame := [] }
    portA := .initial
    portB := .initial
    selector := { owner := .A, condition := .live, mode := .auto, preferred := .A }
    buffer := { fifo := [], state := .priming, held := Cpx.zero, underruns := 0, overruns := 0 }
    timebase := { clock := .unset, second := 0, weekday := 0, subsecond := 0, frameTimer := 0 }
    schedule := { entries := [], hold := false }
    lines :=
      #v[.initial (levels.getLsbD 0), .initial (levels.getLsbD 1), .initial (levels.getLsbD 2),
        .initial (levels.getLsbD 3)]
    notices := initialNotices
    due := []
    pending := [] }

/-- The part right after reset, every contact line low (DESIGN CHOICE, assumption log entry 3: the manual gives no
level of the pins). -/
def State.reset : State := State.powerOn 0

end Sys2Proof.Machine
end

