-- ==== Sys2Proof/Machine/Flags.lean ====
section
/-! DEFINITION. What the part derives from its state and does not store: readings of the tables, effective weights
and powers, usability and use marks, the zero hold, the output gate, the mute state, and the status summary. -/

namespace Sys2Proof.Machine

/-! ### Tables -/

/-- The table whose entry at index `i` is `f i`. -/
def tab {α : Type} {n : Nat} (f : Fin n → α) : Vector α n := ⟨⟨List.ofFn f⟩, by simp⟩

def State.record (s : State) (p : Slot) : PatternRecord := s.patterns.get p
def State.live (s : State) (t : Tower) : Cpx := s.engine.live.get t
def State.net (s : State) (t : Tower) : NetRecord := s.nets.get t
def State.tower (s : State) (t : Tower) : TowerEntry := s.link.towers.get t
def State.line (s : State) (l : Line) : ContactLine := s.lines.get l
def State.noticeSource (s : State) (i : Fin 13) : NoticeSource := s.notices.get i

def State.port (s : State) : Port → PortState
  | .A => s.portA
  | .B => s.portB

/-- The towers from 1 to ARRAY_SIZE. -/
def State.inArray (s : State) (t : Tower) : Bool := decide (t.val < s.settings.arraySize)

/-- The tower with number `k`, counted from 1. -/
def towerOf (k : Nat) : Option Tower := if h : 1 ≤ k ∧ k ≤ 12 then some ⟨k - 1, by omega⟩ else none

/-- The contact line with number `k`, counted from 1. -/
def lineOf (k : Nat) : Option Line := if h : 1 ≤ k ∧ k ≤ 4 then some ⟨k - 1, by omega⟩ else none

/-- The pattern slot with number `k`. -/
def slotOf (k : Nat) : Option Slot := if h : k < 8 then some ⟨k, h⟩ else none

/-- The network position with number `k`. -/
def posOf (k : Nat) : Option Pos := if h : k < 4 then some ⟨k, h⟩ else none

/-! ### Arithmetic (spec/00, Arithmetic; R3, R12, R30) -/

/-- The integer nearest to `x` from `lo` to `hi`. -/
def clampInt (lo hi x : Int) : Int := if x < lo then lo else if hi < x then hi else x

/-- Clamped to −32767 to +32767 (R3, R31). -/
def clampWeight (x : Int) : Int := clampInt (-Config.weightTop) Config.weightTop x

/-- The raw power re² + im² of one weight (spec/00, Power). -/
def Cpx.power (w : Cpx) : Nat := w.re.natAbs * w.re.natAbs + w.im.natAbs * w.im.natAbs

/-- A raw power is within a cap or ceiling C when it is not greater than C × 65536 (spec/00, Power; R12). -/
def withinCap (power cap : Nat) : Bool := decide (power ≤ cap * Config.capUnit)

/-! ### Pattern records (chapter 1) -/

def PatternRecord.header : PatternRecord → Option Header
  | .empty => none
  | .opened h _ => some h
  | .ready h _ => some h

def PatternRecord.entries : PatternRecord → List Entry
  | .empty => []
  | .opened _ es => es
  | .ready _ es => es

def PatternRecord.isReady : PatternRecord → Bool
  | .ready _ _ => true
  | _ => false

/-- The effective weight of an entry: loaded weight plus trim offset, formed exactly and then clamped (R3). -/
def Entry.effective (e : Entry) : Cpx := ⟨clampWeight (e.loaded.re + e.trim.re), clampWeight (e.loaded.im + e.trim.im)⟩

/-- The raw power of an entry list's effective weights (R12). -/
def rawPower (es : List Entry) : Nat := (es.map fun e => Cpx.power e.effective).sum

/-- The entry of a tower in an entry list, where it has one (R2). -/
def entryFor (es : List Entry) (t : Tower) : Option Entry := es.find? fun e => e.tower == t

/-- A tower with an entry is a driven tower of the pattern (R2). -/
def PatternRecord.drives (r : PatternRecord) (t : Tower) : Bool := (entryFor r.entries t).isSome

/-- The effective weight a pattern gives a tower, (0, 0) for a tower it does not drive (R70). -/
def PatternRecord.weightFor (r : PatternRecord) (t : Tower) : Cpx :=
  match entryFor r.entries t with
  | some e => e.effective
  | none => Cpx.zero

/-- The wanted network position: the entry's position for a driven tower, the park position otherwise (R2, R63). -/
def PatternRecord.wanted (r : PatternRecord) (t : Tower) : Pos :=
  match entryFor r.entries t with
  | some e => e.position
  | none =>
    match r.header with
    | some h => h.park
    | none => 0

/-- Some entry has a nonzero tolerance (R2, R72, R85). -/
def PatternRecord.tested (r : PatternRecord) : Bool := r.entries.any fun e => e.tolerance != 0

/-! ### The Tower Table (chapter 7) -/

/-- Some cause is in the set. -/
def Causes.any (c : Causes) : Bool := c.paFault || c.silent || c.jammed || c.wrongPosition || c.upset

def Causes.has (c : Causes) : UnusableCause → Bool
  | .paFault => c.paFault
  | .silent => c.silent
  | .jammed => c.jammed
  | .wrongPosition => c.wrongPosition
  | .upset => c.upset

def Causes.add (c : Causes) : UnusableCause → Causes
  | .paFault => { c with paFault := true }
  | .silent => { c with silent := true }
  | .jammed => { c with jammed := true }
  | .wrongPosition => { c with wrongPosition := true }
  | .upset => { c with upset := true }

/-- A tower is unusable while its set of causes is not empty (R120). -/
def State.unusable (s : State) (t : Tower) : Bool := (s.tower t).causes.any

/-- A tower is locked out or unusable. -/
def State.outOfService (s : State) (t : Tower) : Bool := (s.tower t).lockout || s.unusable t

/-- A pattern is usable when it is READY, drives no locked-out or unusable tower, and its cap is within CEILING (R18). -/
def State.usable (s : State) (p : Slot) : Bool :=
  match s.record p with
  | .ready h es => (es.all fun e => !s.outOfService e.tower) && decide (h.cap ≤ s.settings.ceiling)
  | _ => false

/-! ### Use marks (R4) -/

def State.markLive (s : State) (p : Slot) : Bool :=
  match s.shift.array with
  | .steady q => q == p
  | _ => false

def State.markSource (s : State) (p : Slot) : Bool :=
  match s.shift.array with
  | .shifting c => c.source == some p
  | _ => false

def State.markTarget (s : State) (p : Slot) : Bool :=
  match s.shift.array with
  | .shifting c => c.target == some p
  | _ => false

def State.markQueued (s : State) (p : Slot) : Bool := s.shift.queue.any fun o => o.target == some p

/-- A pattern with any use mark is in use (R4). -/
def State.inUse (s : State) (p : Slot) : Bool := s.markLive p || s.markSource p || s.markTarget p || s.markQueued p

/-! ### Array states (R54) -/

def State.shifting (s : State) : Bool :=
  match s.shift.array with
  | .shifting _ => true
  | _ => false

/-- The array is NO_PATTERN or SAFE. -/
def State.atRest (s : State) : Bool :=
  match s.shift.array with
  | .noPattern => true
  | .safe => true
  | _ => false

/-- The array is SAFE, or SHIFTING in a safe drop (R57, R154, R157). -/
def State.safeOrDropping (s : State) : Bool :=
  match s.shift.array with
  | .safe => true
  | .shifting c => c.cause == .safe
  | _ => false

/-- A pattern, where one is named, drives the tower. -/
def State.drivenBy (s : State) (p : Option Slot) (t : Tower) : Bool :=
  match p with
  | some q => (s.record q).drives t
  | none => false

/-- A tower driven by the live pattern in STEADY, or by the source or target of the transition in flight (R125). -/
def State.drivenInUse (s : State) (t : Tower) : Bool :=
  match s.shift.array with
  | .steady p => s.drivenBy (some p) t
  | .shifting c => s.drivenBy c.source t || s.drivenBy c.target t
  | _ => false

/-- A DROP or CROSS ramp is running (R65). -/
def State.rampRunning (s : State) : Bool :=
  match s.shift.array with
  | .shifting c => c.phase == .drop || c.phase == .cross
  | _ => false

/-! ### Networks (chapter 3) -/

def NetState.isMoving : NetState → Bool
  | .moving _ _ => true
  | _ => false

def NetState.isSettled : NetState → Bool
  | .settled _ => true
  | _ => false

/-- The position field: the position last reported as SETTLED, none in every other state (R36). -/
def NetState.position : NetState → Option Pos
  | .settled p => some p
  | _ => none

/-- The starting position, none outside MOVING (R36). -/
def NetState.start : NetState → Option Pos
  | .moving _ p => some p
  | _ => none

/-! ### Contact lines (R155) -/

/-- An electrical level, true for high, read through a sense: true for active (R155). -/
def Sense.read (x : Sense) (high : Bool) : Bool :=
  match x with
  | .activeHigh => high
  | .activeLow => !high

/-- The sampled level of a line as it stands: its electrical level read through its sense (R155, R158). -/
def ContactLine.present (l : ContactLine) : Bool := l.sense.read l.pin

/-! ### Mute, zero hold and output gate (R26, R32, R34) -/

/-- A MUTE line whose debounced level is active. -/
def ContactLine.mutes (l : ContactLine) : Bool := l.action == .mute && l.active

/-- Mute is active while some MUTE line has an active debounced level (R34, R158). -/
def State.mute (s : State) : Bool := allLines.any fun l => (s.line l).mutes

/-- The zero hold of a tower: locked out, unusable, network MOVING or network DRIFTING (R26). -/
def State.zeroHold (s : State) (t : Tower) : Bool :=
  s.outOfService t || (s.net t).state.isMoving || (s.net t).state == .drifting

/-- The output gate closes a slot above ARRAY_SIZE, a locked-out or unusable tower, and every slot while mute is
active (R32). -/
def State.gated (s : State) (t : Tower) : Bool := !s.inArray t || s.outOfService t || s.mute

/-! ### Powers (R28) -/

/-- The raw power of the Live Weight Set (R28). -/
def State.livePower (s : State) : Nat := (allTowers.map fun t => Cpx.power (s.live t)).sum

/-- Every live weight is (0, 0). -/
def State.allZero (s : State) : Bool := allTowers.all fun t => s.live t == Cpx.zero

/-! ### The monitor's window (R82, R86, R87) -/

/-- The tested set of a window: the towers tested and the reference tower (R85). -/
def Window.tested (w : Window) (t : Tower) : Bool := w.reference == t || w.tests.any fun e => e.tower == t

/-- A tower is complete for the window when its report count has reached W (R86). -/
def Window.complete (w : Window) (t : Tower) : Bool := decide (w.reports ≤ (w.acc.get t).count)

/-- Every tower of the tested set is complete (R87). -/
def Window.full (w : Window) : Bool := allTowers.all fun t => !w.tested t || w.complete t

/-! ### Notices and the status summary (R171, R172, R180) -/

/-- The index of a notice's source in the order of R172. -/
def Notice.source : Notice → Fin 13
  | .safeEntered _ _ => 0
  | .towerFault _ _ => 1
  | .shiftFailed _ _ _ => 2
  | .fallbackStarted _ _ _ => 3
  | .monitorOut _ _ => 4
  | .sourceContention _ => 5
  | .driveLost _ => 6
  | .changeover _ => 7
  | .shiftDone _ _ _ => 8
  | .contactorSlow _ _ => 9
  | .scheduleSkipped _ _ => 10
  | .saturation _ _ => 11
  | .orderDiscarded _ _ _ => 12

/-- The thirteen sources in the order of selection (R172). -/
def allSources : List (Fin 13) := [0, 1, 2, 3, 4, 5, 6, 7, 8, 9, 10, 11, 12]

/-- A source that is enabled and pending. -/
def NoticeSource.ready (n : NoticeSource) : Bool := n.enabled && n.pending.isSome

/-- At least one enabled source is pending (R171). -/
def State.noticePending (s : State) : Bool := allSources.any fun i => (s.noticeSource i).ready

/-- Some tower from 1 to ARRAY_SIZE has at least one unusable cause (R171). -/
def State.anyUnusable (s : State) : Bool := allTowers.any fun t => s.inArray t && s.unusable t

/-- Some tower's consecutive-failure count is at or above FAIL_LIMIT (R100, R171). -/
def State.countAtLimit (s : State) : Bool :=
  allTowers.any fun t => decide (s.settings.failLimit ≤ (s.monitor.records.get t).failCount)

def ArrayState.number : ArrayState → Nat
  | .noPattern => 0
  | .steady _ => 1
  | .shifting _ => 2
  | .safe => 3

def Phase.number : Phase → Nat
  | .drop => 0
  | .switch => 1
  | .cross => 2
  | .verify => 3

def Port.number : Port → Nat
  | .A => 0
  | .B => 1

/-- Status byte 1: array state, live pattern (0 unless STEADY), phase (0 unless SHIFTING), owner (R180). -/
def State.statusByte1 (s : State) : Nat :=
  s.shift.array.number * 64
    + (match s.shift.array with
      | .steady p => p.val * 8
      | .shifting c => c.phase.number * 2
      | _ => 0)
    + Port.number s.selector.owner

/-- Status byte 2: owner LOST, tower unusable, monitor count at limit, mute, notice pending (R180). -/
def State.statusByte2 (s : State) : Nat :=
  (if s.selector.condition = .lost then 128 else 0) + (if s.anyUnusable then 64 else 0)
    + (if s.countAtLimit then 32 else 0) + (if s.mute then 16 else 0) + (if s.noticePending then 8 else 0)

end Sys2Proof.Machine
end

