-- ==== Sys2Proof/Machine/Operands.lean ====
section
/-! DEFINITION. The byte layouts the part sends: value bytes of replies, notice bodies, Return Frames and Drive
Frames (R176 to R181), with the code sets of R180. The readings of the layout the manual leaves to inference are
marked DEDUCED or DESIGN CHOICE in the assumption log, entries 12 to 19. -/

namespace Sys2Proof.Machine

/-! ### Fields, most significant byte first (R176) -/

def u8 (n : Nat) : List Byte := [BitVec.ofNat 8 n]
def u16 (n : Nat) : List Byte := [BitVec.ofNat 8 (n / 256), BitVec.ofNat 8 n]
def u24 (n : Nat) : List Byte := [BitVec.ofNat 8 (n / 65536), BitVec.ofNat 8 (n / 256), BitVec.ofNat 8 n]
def u40 (n : Nat) : List Byte :=
  [BitVec.ofNat 8 (n / 4294967296), BitVec.ofNat 8 (n / 16777216), BitVec.ofNat 8 (n / 65536),
    BitVec.ofNat 8 (n / 256), BitVec.ofNat 8 n]

/-- A signed component in two's complement, two bytes (R176, R178). -/
def s16 (i : Int) : List Byte := u16 (i % 65536).toNat

/-- A pair of components, four bytes. -/
def pair (c : Cpx) : List Byte := s16 c.re ++ s16 c.im

/-- yes, on and set are 1, and no, off and clear are 0 (R178). -/
def flag (b : Bool) : List Byte := u8 (if b then 1 else 0)

/-- A value given as none is sent with every one of its `w` bytes 255 (R178). -/
def orNone {α : Type} (w : Nat) (f : α → List Byte) : Option α → List Byte
  | some x => f x
  | none => List.replicate w 255

/-- The bytes of a frame with the two check bytes behind them (R176). -/
def sealFrame (bs : List Byte) : List Byte := bs ++ u16 (byteSum bs)

/-- Bytes filled up with zeros to `w` bytes. -/
def padTo (w : Nat) (bs : List Byte) : List Byte := bs ++ List.replicate (w - bs.length) 0

/-! ### Code sets (R178, R180) -/

def ReplyCode.number : ReplyCode → Nat
  | .ok => 0
  | .accepted => 1
  | .badRequest => 2
  | .badValue => 3
  | .badState => 4
  | .inUse => 5
  | .busy => 6
  | .collision => 7
  | .queueFull => 8
  | .notUsable => 9
  | .checkFailed => 10
  | .tableFull => 11
  | .duplicate => 12
  | .notFound => 13

def Reason.number : Reason → Nat
  | .noEntries => 1
  | .noReference => 2
  | .zeroExpected => 3
  | .capAboveCeiling => 4
  | .capExceeded => 5
  | .notReady => 16
  | .notUsable => 17
  | .jammed => 18
  | .towerFault => 19
  | .verifyFail => 20
  | .aborted => 21
  | .monitorOut => 22
  | .secondFailure => 32
  | .noFallback => 33
  | .held => 48
  | .safe => 49
  | .queueFull => 50

def UnusableCause.number : UnusableCause → Nat
  | .paFault => 1
  | .silent => 2
  | .jammed => 3
  | .wrongPosition => 4
  | .upset => 5

def OrderCause.number : OrderCause → Nat
  | .manual => 0
  | .schedule => 1
  | .contact => 2
  | .fallback => 3
  | .abort => 4
  | .safe => 5

def Verdict.number : Verdict → Nat
  | .pass => 0
  | .fail => 1
  | .silent => 2
  | .untested => 3
  | .refSilent => 4

/-- A prior state takes the array state code of R180 (DEDUCED, log entry 12). -/
def Prior.number : Prior → Nat
  | .noPattern => 0
  | .steady => 1
  | .safe => 3

/-- Levels are 0 ROUTINE and 1 URGENT (R178). -/
def Level.number : Level → Nat
  | .routine => 0
  | .urgent => 1

def NetState.number : NetState → Nat
  | .unknown => 0
  | .settled _ => 1
  | .moving _ _ => 2
  | .jammed => 3
  | .drifting => 4

def PatternRecord.number : PatternRecord → Nat
  | .empty => 0
  | .opened _ _ => 1
  | .ready _ _ => 2

def Duty.number : Duty → Nat
  | .none => 0
  | .steady _ => 1
  | .verify _ => 2

def FailureKind.number : FailureKind → Nat
  | .none => 0
  | .transition => 1
  | .steady => 2

def FailureOutcome.number : FailureOutcome → Nat
  | .fallback => 0
  | .safeDrop => 1

def Sense.number : Sense → Nat
  | .activeHigh => 0
  | .activeLow => 1

def Action.number : Action → Nat
  | .none => 0
  | .shiftOnActive _ => 1
  | .shiftPair _ _ => 2
  | .mute => 3

/-- A contact level takes its place in R155's list "active, inactive" (R178; DEDUCED, log entry 13). -/
def levelNumber (active : Bool) : Nat := if active then 0 else 1

/-! ### Values of their own kind (R178) -/

def towerByte (t : Tower) : List Byte := u8 (t.val + 1)
def slotByte (p : Slot) : List Byte := u8 p.val
def posByte (p : Pos) : List Byte := u8 p.val

/-- A set of towers: two bytes in which bit t − 1 stands for tower t (R178). -/
def towerSet (ts : List Tower) : List Byte := u16 ((allTowers.map fun t => if t ∈ ts then 2 ^ t.val else 0).sum)

/-- A set of flags: one byte in which bit i stands for the member at place i (R178). -/
def bitSet : List Bool → Nat
  | [] => 0
  | b :: bs => (if b then 1 else 0) + 2 * bitSet bs

def causeSet (c : Causes) : List Byte := u8 (bitSet [c.paFault, c.silent, c.jammed, c.wrongPosition, c.upset])

/-- Use marks in the order of R4's table: LIVE, SOURCE, TARGET, QUEUED. -/
def markSet (s : State) (p : Slot) : List Byte := u8 (bitSet [s.markLive p, s.markSource p, s.markTarget p, s.markQueued p])

/-- The origin of an order: origin kind and three bytes of origin (R180, ORDER_DISCARDED). -/
def originBytes : Origin → List Byte
  | .port p => u8 0 ++ u24 (Port.number p)
  | .time t => u8 1 ++ u24 t
  | .line l => u8 2 ++ u24 (l.val + 1)
  | .pattern p => u8 3 ++ u24 p.val

def orderBytes (o : Order) : List Byte := orNone 1 slotByte o.target ++ u8 o.cause.number ++ originBytes o.origin

/-- A return slot of R181. An empty one has its filled bit clear and every other bit 0; one that reported TRAVEL has its
position bits 0, and one without a phasor its phasor bytes (R181; DEDUCED, log entry 14). -/
def returnSlotBytes : Option SlotReport → List Byte
  | none => [0, 0, 0, 0, 0]
  | some r =>
    u8 (128 + (match r.network with
        | .travel => 64
        | .settled p => p.val * 16) + (if r.paFault then 8 else 0) + (if r.phasor.isSome then 4 else 0))
      ++ pair (r.phasor.getD Cpx.zero)

/-! ### Notice bodies (R180) -/

/-- The payload of a notice, bytes 2 and on of its body (R180). -/
def Notice.payload : Notice → List Byte
  | .safeEntered p r => slotByte p ++ u8 r.number
  | .towerFault t c => towerByte t ++ u8 c.number
  | .shiftFailed p r v =>
    orNone 1 slotByte p ++ u8 r.number
      ++ orNone 3 (fun (x : Tower × Verdict × Nat) => towerByte x.1 ++ u8 x.2.1.number ++ u8 x.2.2) v
  | .fallbackStarted p f r => slotByte p ++ slotByte f ++ u8 r.number
  | .monitorOut t d => towerByte t ++ u8 d
  | .sourceContention p => u8 (Port.number p)
  | .driveLost p => u8 (Port.number p)
  | .changeover p => u8 (Port.number p)
  | .shiftDone p c w => orNone 1 slotByte p ++ u8 c.number ++ u8 w
  | .contactorSlow t n => towerByte t ++ u16 n
  | .scheduleSkipped t r => u24 t ++ u8 r.number
  | .saturation t n => towerByte t ++ u8 n
  | .orderDiscarded p c o => orNone 1 slotByte p ++ u8 c.number ++ originBytes o

/-- A notice body of twelve bytes: order number, repeat bit, payload (R180). -/
def noticeBody (n : Notice) (repeated : Bool) : List Byte := padTo 12 (u8 (n.source.val + 1) ++ flag repeated ++ n.payload)

/-! ### Reply frames (R178) -/

/-- The least number of frames that holds the reply's values: 7 in the first, 9 in each later one (R178). -/
def replyFrames (r : Reply) : Nat := 1 + (r.values.length - 7 + 8) / 9

/-- The body of the reply frame sent when `k` frames have been sent already (R178). -/
def replyBody (slot : ReplySlot) (k : Nat) : List Byte :=
  if k = 0 then
    padTo 12 ([slot.request, slot.tag] ++ u8 slot.reply.code.number
      ++ u8 (match slot.reply.reason with
        | some r => r.number
        | none => 0)
      ++ u8 (replyFrames slot.reply) ++ slot.reply.values.take 7)
  else padTo 12 ([slot.request, slot.tag] ++ u8 (k + 1) ++ (slot.reply.values.drop (9 * k - 2)).take 9)

/-! ### Return Frames (R177) -/

/-- What a Return Frame carries behind the status summary (R170). -/
inductive Content where
  | nothing
  | reply (body : List Byte)
  | notice (body : List Byte)
  deriving DecidableEq, Repr

def Content.bytes : Content → List Byte
  | .nothing => u8 0 ++ List.replicate 12 0
  | .reply b => u8 1 ++ b
  | .notice b => u8 2 ++ b

/-- A Return Frame of eighteen bytes (R177). -/
def returnFrameBytes (status1 status2 : Nat) (c : Content) : List Byte :=
  sealFrame (u8 129 ++ u8 status1 ++ u8 status2 ++ c.bytes)

/-! ### Drive Frames (R115, R181) -/

/-- One tower slot of a Drive Frame (R115). -/
structure DriveSlot where
  valid : Bool
  move : Option Pos
  drive : Cpx
  deriving DecidableEq, Repr

/-- The five bytes of a tower slot: flags and target position, drive I, drive Q (R181). -/
def DriveSlot.bytes (d : DriveSlot) : List Byte :=
  u8 ((if d.valid then 128 else 0) + (match d.move with
      | some q => 64 + q.val
      | none => 0)) ++ pair d.drive

/-- A Drive Frame of sixty-three bytes (R181). -/
def driveFrameBytes (slots : Tower → DriveSlot) : List Byte :=
  sealFrame (u8 209 ++ (allTowers.map fun t => (slots t).bytes).flatten)

/-! ### Replies (R164) -/

def replyOk (values : List Byte) : Reply := { code := .ok, reason := none, values := values }
def refuse (code : ReplyCode) : Reply := { code := code, reason := none, values := [] }
def checkFailed (r : Reason) (values : List Byte) : Reply := { code := .checkFailed, reason := some r, values := values }

end Sys2Proof.Machine
end

