-- ==== Sys2Proof/Machine/Ops.lean ====
section
/-! DEFINITION. The named operations over the state that the blocks share: writes of one table entry, the Live
Weight Set under the zero hold, the raising of a notice, saturating counters, and the step timer. -/

namespace Sys2Proof.Machine

/-! ### Writes of one field -/

def State.setRecord (s : State) (p : Slot) (r : PatternRecord) : State := { s with patterns := s.patterns.set p r }

def State.setNet (s : State) (t : Tower) (r : NetRecord) : State := { s with nets := s.nets.set t r }

def State.setTower (s : State) (t : Tower) (e : TowerEntry) : State :=
  { s with link := { s.link with towers := s.link.towers.set t e } }

def State.setLine (s : State) (l : Line) (c : ContactLine) : State := { s with lines := s.lines.set l c }

def State.setNoticeSource (s : State) (i : Fin 13) (n : NoticeSource) : State :=
  { s with notices := s.notices.set i n }

def State.setPort (s : State) (p : Port) (x : PortState) : State :=
  match p with
  | .A => { s with portA := x }
  | .B => { s with portB := x }

def State.setLive (s : State) (w : Vector Cpx 12) : State := { s with engine := { s.engine with live := w } }

def State.setArray (s : State) (a : ArrayState) : State := { s with shift := { s.shift with array := a } }

def State.setQueue (s : State) (q : List Order) : State := { s with shift := { s.shift with queue := q } }

def State.setTimer (s : State) (t : StepTimer) : State := { s with shift := { s.shift with timer := t } }

def State.setFlag (s : State) (b : Bool) : State := { s with shift := { s.shift with fallbackFlag := b } }

def State.setLastFailure (s : State) (f : LastFailure) : State := { s with shift := { s.shift with lastFailure := f } }

def State.setDuty (s : State) (d : Duty) : State := { s with monitor := { s.monitor with duty := d } }

def State.setWindow (s : State) (w : Option Window) : State := { s with monitor := { s.monitor with window := w } }

def State.setMonRecords (s : State) (r : Vector MonRecord 12) : State :=
  { s with monitor := { s.monitor with records := r } }

def State.setSettings (s : State) (x : Settings) : State := { s with settings := x }

def State.setSelector (s : State) (x : Selector) : State := { s with selector := x }

def State.setBuffer (s : State) (x : Buffer) : State := { s with buffer := x }

def State.setTimebase (s : State) (x : Timebase) : State := { s with timebase := x }

def State.setSchedule (s : State) (x : Schedule) : State := { s with schedule := x }

def State.setDue (s : State) (d : List TickEvent) : State := { s with due := d }

/-! ### Counters -/

/-- A counter rises by one and stays at 65535 (R31, R117, R130, R143). -/
def bump (n : Nat) : Nat := if n < Config.counterTop then n + 1 else n

/-! ### Notices (R173) -/

/-- A raise: a disabled source discards it; a source already pending takes the new payload and its repeat bit is
set; a source not pending becomes pending with its repeat bit clear (R173). -/
def NoticeSource.raised (src : NoticeSource) (n : Notice) : NoticeSource :=
  if src.enabled then { src with pending := some n, repeated := src.pending.isSome } else src

/-- A block raises a notice (R173). -/
def raise (n : Notice) (s : State) : State := s.setNoticeSource n.source ((s.noticeSource n.source).raised n)

/-! ### The Live Weight Set (R22 to R26) -/

/-- One write of all twelve weights; a tower under the zero hold stores (0, 0) (R24, R26). -/
def writeAllWeights (f : Tower → Cpx) (s : State) : State :=
  s.setLive (tab fun t => if s.zeroHold t then Cpx.zero else f t)

/-- A write of one tower's weight under the zero hold (R25, R26). -/
def writeWeight (t : Tower) (w : Cpx) (s : State) : State :=
  s.setLive (s.engine.live.set t (if s.zeroHold t then Cpx.zero else w))

/-- A tower that comes under the zero hold has its weight forced to (0, 0) (R26). -/
def forceZero (t : Tower) (s : State) : State := s.setLive (s.engine.live.set t Cpx.zero)

/-! ### The step timer (R64) -/

/-- At the start of a DROP or CROSS phase the counter is set to the reload value and the timer runs (R64). -/
def startTimer (s : State) : State := s.setTimer { counter := s.settings.stepPeriod, running := true }

/-- The timer is stopped at the event that ends a DROP or CROSS phase. A counter that has reached 0 at the tick of that
event is reloaded with it, so that a stopped counter never stands at 0 (R64). -/
def stopTimer (s : State) : State :=
  s.setTimer
    { counter := if s.shift.timer.counter = 0 then s.settings.stepPeriod else s.shift.timer.counter, running := false }

/-! ### Network moves (R38, R40, R41) -/

/-- The answers to a move request (R38). -/
inductive MoveAnswer where
  | started
  | held
  | atPosition
  | refused
  deriving DecidableEq, Repr

/-- The commanded target of a tower is set (R38, R41). -/
def setCommanded (t : Tower) (q : Option Pos) (s : State) : State := s.setNet t { s.net t with commanded := q }

/-- A move starts: MOVING to `q` from `start`, commanded target `q`, travel timer from 0 (R40). -/
def startMove (t : Tower) (start q : Pos) (s : State) : State :=
  s.setNet t { s.net t with state := .moving q start, commanded := some q, travelTimer := 0 }

/-- A move request, answered by the first row of R38's table that applies. A JAMMED record carries the JAMMED cause
(R38), so its last row is met by no state the part reaches. -/
def requestMove (t : Tower) (q : Pos) (s : State) : State × MoveAnswer :=
  if s.outOfService t || !s.inArray t then (setCommanded t none s, .refused)
  else
    match (s.net t).state with
    | .settled p =>
      if p = q then (setCommanded t none s, .atPosition)
      else if s.live t = Cpx.zero then (startMove t p q s, .started)
      else (s, .refused)
    | .moving _ _ => (setCommanded t (some q) s, .held)
    | .unknown => (setCommanded t (some q) s, .held)
    | .drifting => (setCommanded t (some q) s, .held)
    | .jammed => (setCommanded t none s, .refused)

/-- The Shift Controller withdraws its commanded targets; no move in flight is stopped (R41). -/
def withdrawAll (s : State) : State := { s with nets := tab fun t => { s.net t with commanded := none } }

/-! ### The monitor's duty and window (R84, R85, R88, R89) -/

/-- The tested entries of a pattern other than the reference, as copied at a window's start (R85). -/
def testsOf (es : List Entry) (reference : Tower) : List TestEntry :=
  (es.filter fun e => e.tolerance != 0 && e.tower != reference).map fun e =>
    { tower := e.tower, expected := e.expected, tolerance := e.tolerance }

/-- The window that begins over a pattern: none for a pattern with no tested entry (R85). A READY pattern always has
its reference tower (R11). -/
def freshWindow (s : State) (p : Slot) : Option Window :=
  match (s.record p).header with
  | none => none
  | some h =>
    match h.reference with
    | none => none
    | some r =>
      if (s.record p).tested then
        some
          { pattern := p, reference := r, tests := testsOf (s.record p).entries r, reports := s.settings.monWindow,
            limit := s.settings.windowLimit, timer := 0,
            acc := Vector.replicate 12 { count := 0, sum := Cpx.zero } }
      else none

/-- The pattern of a duty other than NONE. -/
def Duty.pattern : Duty → Option Slot
  | .none => Option.none
  | .steady p => some p
  | .verify p => some p

/-- The window is discarded, and where the duty is STEADY p or VERIFY p and mute is not active a new one begins
at once (R85, R88, R89, R98). -/
def restartWindow (s : State) : State :=
  s.setWindow
    (match s.monitor.duty.pattern with
    | some p => if s.mute then none else freshWindow s p
    | none => none)

/-- The duty becomes NONE and a window in progress is abandoned (R84). -/
def clearDuty (s : State) : State := (s.setDuty .none).setWindow none

/-- A record marked UNTESTED, its averaged phasor and window counter kept (R85, R94). -/
def MonRecord.untest (r : MonRecord) : MonRecord :=
  { r with deviation := 0, outcome := .untested, failCount := 0, out := false }

/-- The duty becomes STEADY p: a window begins, or, for a pattern with no tested entry, every record is marked
UNTESTED (R84, R85). -/
def setSteadyDuty (p : Slot) (s : State) : State :=
  let s := restartWindow (s.setDuty (.steady p))
  if (s.record p).tested then s
  else s.setMonRecords (tab fun t => (s.monitor.records.get t).untest)

/-- The VERIFY phase asks for a window over its target (R72, R84). -/
def setVerifyDuty (p : Slot) (s : State) : State := restartWindow (s.setDuty (.verify p))

/-- What a change of the mute state tells the monitor: the onset discards the window, the end begins one by the duty
(R34, R89). -/
def muteChanged (before : Bool) (s : State) : State := if s.mute = before then s else restartWindow s

end Sys2Proof.Machine
end

