-- ==== Sys2Proof/Machine/Sources.lean ====
section
/-! DEFINITION. The source ports' presence, the Source Selector and the Sample Buffer (chapter 8). -/

namespace Sys2Proof.Machine

/-! ### The Sample Buffer (R140, R141, R142) -/

/-- A push of an owner's sample (R140). -/
def Buffer.push (b : Buffer) (x : Cpx) : Buffer :=
  if Config.bufferDepth ≤ b.fifo.length then { b with overruns := bump b.overruns }
  else
    { b with
      fifo := b.fifo ++ [x]
      state := if b.fifo.length + 1 = Config.primingDepth then .running else b.state }

/-- A flush empties the FIFO and sets PRIMING; the held sample and the counters are kept (R142). -/
def Buffer.flush (b : Buffer) : Buffer := { b with fifo := [], state := .priming }

/-- The buffer after the Weighting Engine has taken its one sample; that sample is the held sample (R141). -/
def Buffer.take (b : Buffer) : Buffer :=
  match b.state, b.fifo with
  | .priming, _ => b
  | .running, x :: rest => { b with fifo := rest, held := x }
  | .running, [] => { b with underruns := bump b.underruns }

def pushSample (x : Cpx) (s : State) : State := s.setBuffer (s.buffer.push x)
def flushBuffer (s : State) : State := s.setBuffer s.buffer.flush

/-! ### The Source Selector (R133 to R136) -/

/-- A changeover to a port: owner LIVE, buffer flushed, CHANGEOVER raised (R133). -/
def changeover (p : Port) (s : State) : State :=
  raise (.changeover p) (flushBuffer (s.setSelector { s.selector with owner := p, condition := .live }))

/-- The four conditions of an automatic takeover (R134). -/
def State.takeoverReady (s : State) : Bool :=
  let other := s.port s.selector.owner.other
  s.selector.mode == .auto && s.selector.condition == .lost && other.present && !other.barred

/-- An automatic takeover where its conditions hold (R134). -/
def takeover (s : State) : State := if s.takeoverReady then changeover s.selector.owner.other s else s

/-- A discarded sample is counted (R135). -/
def discardSample (p : Port) (s : State) : State :=
  s.setPort p { s.port p with discarded := bump (s.port p).discarded }

/-- A Sample Frame sets its port's age to 0 and its present flag (R131). -/
def portHeard (p : Port) (s : State) : State := s.setPort p { s.port p with age := 0, present := true }

/-- A sample of the owner: a LOST owner becomes LIVE, and the sample is pushed (R135). -/
def ownerSample (x : Cpx) (s : State) : State :=
  pushSample x (s.setSelector { s.selector with condition := .live })

/-- A sample is taken at the Source Selector (R135). -/
def selectorSample (p : Port) (x : Cpx) (claim : Bool) (s : State) : State :=
  if p = s.selector.owner then ownerSample x s
  else if s.selector.condition = .lost ∧ s.selector.mode = .auto ∧ (s.port p).barred = false then
    ownerSample x (changeover p s)
  else if claim = true ∧ (s.port p).barred = false then
    discardSample p (raise (.sourceContention p) (s.setPort p { s.port p with barred := true }))
  else discardSample p s

/-- A Sample Frame at its port (R131, R135). -/
def sampleTaken (p : Port) (x : Cpx) (claim : Bool) (s : State) : State := selectorSample p x claim (portHeard p s)

/-- A present port whose age is at or above HOLDOVER becomes not present (R131). -/
def holdoverExpired (p : Port) (s : State) : State :=
  if (s.port p).present && decide (s.settings.holdover ≤ (s.port p).age) then
    s.setPort p { s.port p with present := false }
  else s

/-- A LIVE owner whose age is at or above HOLDOVER becomes LOST: a takeover is made where its conditions hold, and
DRIVE_LOST is raised where they do not (R136). An owner that a force has just made is lost as any other is, where this tick
brings its age to HOLDOVER or a write has just lowered HOLDOVER (DEDUCED, log entry 27). -/
def ownerLost (s : State) : State :=
  if s.selector.condition = .live ∧ s.settings.holdover ≤ (s.port s.selector.owner).age then
    let s := s.setSelector { s.selector with condition := .lost }
    if s.takeoverReady then takeover s else raise (.driveLost s.selector.owner) s
  else s

/-! ### Replies and the request assembly (R161, R162, R163) -/

/-- The request overrun counter rises (R143). -/
def overrun (p : Port) (s : State) : State := s.setPort p { s.port p with overruns := bump (s.port p).overruns }

/-- A reply is placed in the slot, which becomes FULL with no frames sent (R163). -/
def placeReply (p : Port) (code tag : Byte) (r : Reply) (s : State) : State :=
  s.setPort p { s.port p with slot := some { request := code, tag := tag, reply := r, sent := 0 } }

def setAssembly (p : Port) (a : Assembly) (s : State) : State := s.setPort p { s.port p with assembly := a }

/-- A reply BAD_REQUEST where the slot is empty, a request overrun where it is full (R162, R163). -/
def badRequest (p : Port) (code tag : Byte) (s : State) : State :=
  if (s.port p).slot.isSome then overrun p s else placeReply p code tag (refuse .badRequest) s

/-- A request that is ASSEMBLING is abandoned (R162). -/
def abandonRequest (p : Port) (s : State) : State :=
  match (s.port p).assembly with
  | .idle => s
  | .assembling code tag _ _ _ => badRequest p code tag (setAssembly p .idle s)

/-- What a request does: the state after it and its reply. -/
abbrev RequestOp := State → State × Reply

/-- A completed request is taken by the Request Handler: not executed and counted where the reply slot is FULL,
executed whole otherwise, with its reply placed in the slot (R163). -/
def takeRequest (p : Port) (code tag : Byte) (op : RequestOp) (s : State) : State :=
  if (s.port p).slot.isSome then overrun p s
  else placeReply p code tag (op s).2 (op s).1

/-- A frame that fails its check is discarded whole and counted (R130). -/
def discardFrame (p : Port) (s : State) : State :=
  s.setPort p { s.port p with frameErrors := bump (s.port p).frameErrors }

end Sys2Proof.Machine
end

