-- ==== Sys2Proof/Machine/Patterns.lean ====
section
/-! DEFINITION. The requests of the Pattern Table (chapter 1). Each is tested in the fixed order of R6: the pattern
number, the record's state, the ranges of the operands, then the request's own conditions. -/

namespace Sys2Proof.Machine

/-- A request that is refused changes nothing (R163). -/
def refused (code : ReplyCode) (s : State) : State × Reply := (s, refuse code)

/-- A request that is answered OK with value bytes. -/
def answered (s : State) (values : List Byte) : State × Reply := (s, replyOk values)

/-! ### Pattern Open (R7) -/

/-- The default header of a record opened from EMPTY (R7). -/
def Header.default : Header :=
  { reference := none, park := 0, cap := 0, ramp := 100, trimLimit := 0, fallback := none, monitorFallback := false }

def reqPatternOpen (pattern : Byte) : RequestOp := fun s =>
  match slotOf pattern.toNat with
  | none => refused .badValue s
  | some p =>
    match s.record p with
    | .empty => answered (s.setRecord p (.opened Header.default [])) []
    | .opened _ _ => answered s []
    | .ready h es => if s.inUse p then refused .inUse s else answered (s.setRecord p (.opened h es)) []

/-! ### Pattern Header (R8) -/

/-- A trim offset component clamped to ± a trim limit, keeping its sign (R8, R15). -/
def clampTrim (limit : Nat) (x : Int) : Int := clampInt (-(limit : Int)) limit x

/-- An entry whose trim offset is clamped to a trim limit (R8). -/
def Entry.clamped (limit : Nat) (e : Entry) : Entry :=
  { e with trim := ⟨clampTrim limit e.trim.re, clampTrim limit e.trim.im⟩ }

/-- The number of offset components of an entry that a clamp to a trim limit changes (R8). -/
def Entry.clampCount (limit : Nat) (e : Entry) : Nat :=
  (if clampTrim limit e.trim.re = e.trim.re then 0 else 1) + (if clampTrim limit e.trim.im = e.trim.im then 0 else 1)

/-- A tower operand from 1 to ARRAY_SIZE. -/
def arrayTower (s : State) (b : Byte) : Option Tower := (towerOf b.toNat).filter s.inArray

/-- A reference tower operand: 1 to ARRAY_SIZE, or 255 for none; the outer none is a value out of range (R8, R179). -/
def referenceOperand (s : State) (b : Byte) : Option (Option Tower) :=
  if b = 255 then some none else (arrayTower s b).map some

/-- A fallback operand: 0 to 7 but the record's own slot, or 255 for none (R8, R179). -/
def fallbackOperand (p : Slot) (b : Byte) : Option (Option Slot) :=
  if b = 255 then some none else ((slotOf b.toNat).filter fun q => q != p).map some

/-- An on or off operand: 1 or 0 (R178). -/
def onOff (b : Byte) : Option Bool := if b = 1 then some true else if b = 0 then some false else none

/-- The header that the operands of Pattern Header spell, or none where a field is out of range (R8). -/
def headerOperands (s : State) (p : Slot) (reference park : Byte) (cap ramp trimLimit : Half) (fallback option : Byte) :
    Option Header := do
  let r ← referenceOperand s reference
  let k ← posOf park.toNat
  let f ← fallbackOperand p fallback
  let m ← onOff option
  if 1 ≤ ramp.toNat ∧ ramp.toNat ≤ 4000 ∧ trimLimit.toNat ≤ 2048 then
    some { reference := r, park := k, cap := cap.toNat, ramp := ramp.toNat, trimLimit := trimLimit.toNat, fallback := f,
           monitorFallback := m }
  else none

def reqPatternHeader (pattern reference park : Byte) (cap ramp trimLimit : Half) (fallback option : Byte) : RequestOp :=
  fun s =>
  match slotOf pattern.toNat with
  | none => refused .badValue s
  | some p =>
    match s.record p with
    | .opened _ es =>
      match headerOperands s p reference park cap ramp trimLimit fallback option with
      | none => refused .badValue s
      | some h =>
        answered (s.setRecord p (.opened h (es.map (Entry.clamped h.trimLimit))))
          (u8 ((es.map (Entry.clampCount h.trimLimit)).sum))
    | _ => refused .badState s

/-! ### Tower Entry and Tower Entry Remove (R9, R10) -/

/-- The list with an entry put in its place: in place of the tower's entry, or before the first entry of a higher
tower number (R2, R9). -/
def putEntry (e : Entry) : List Entry → List Entry
  | [] => [e]
  | x :: xs =>
    if x.tower = e.tower then e :: xs
    else if e.tower < x.tower then e :: x :: xs
    else x :: putEntry e xs

/-- The list index of a tower's entry, counting from 1 (R9). -/
def entryIndex (es : List Entry) (t : Tower) : Nat := (es.findIdx fun e => e.tower == t) + 1

/-- The entry that the operands of Tower Entry spell, its trim offset (0, 0), or none where an operand is out of range
(R9). -/
def entryOperands (s : State) (tower : Byte) (weightRe weightIm : Half) (position : Byte)
    (expectedRe expectedIm : Half) (tolerance : Byte) : Option Entry := do
  let t ← arrayTower s tower
  let k ← posOf position.toNat
  let w : Cpx := ⟨signed16 weightRe.toNat, signed16 weightIm.toNat⟩
  let x : Cpx := ⟨signed16 expectedRe.toNat, signed16 expectedIm.toNat⟩
  if w.re = -32768 ∨ w.im = -32768 ∨ x.re = -32768 ∨ x.im = -32768 then none
  else some { tower := t, loaded := w, position := k, expected := x, tolerance := tolerance.toNat, trim := Cpx.zero }

def reqTowerEntry (pattern tower : Byte) (weightRe weightIm : Half) (position : Byte) (expectedRe expectedIm : Half)
    (tolerance : Byte) : RequestOp := fun s =>
  match slotOf pattern.toNat with
  | none => refused .badValue s
  | some p =>
    match s.record p with
    | .opened h es =>
      match entryOperands s tower weightRe weightIm position expectedRe expectedIm tolerance with
      | none => refused .badValue s
      | some e =>
        let es' := putEntry e es
        answered (s.setRecord p (.opened h es')) (u8 (entryIndex es' e.tower) ++ flag (entryFor es e.tower).isSome)
    | _ => refused .badState s

def reqTowerEntryRemove (pattern tower : Byte) : RequestOp := fun s =>
  match slotOf pattern.toNat with
  | none => refused .badValue s
  | some p =>
    match s.record p with
    | .opened h es =>
      match arrayTower s tower with
      | none => refused .badValue s
      | some t =>
        if (entryFor es t).isNone then refused .notFound s
        else
          let es' := es.filter fun e => e.tower != t
          answered (s.setRecord p (.opened h es')) (u8 es'.length)
    | _ => refused .badState s

/-! ### Pattern Close (R11) -/

/-- The first of the five close checks that fails, in their order (R11). -/
def closeCheck (ceiling : Nat) (h : Header) (es : List Entry) : Option Reason :=
  if es.isEmpty then some .noEntries
  else
    match h.reference with
    | none => some .noReference
    | some r =>
      if (entryFor es r).isNone then some .noReference
      else if es.any (fun e => e.tolerance != 0 && e.tower != r && e.expected == Cpx.zero) then some .zeroExpected
      else if ceiling < h.cap then some .capAboveCeiling
      else if withinCap (rawPower es) h.cap = false then some .capExceeded
      else none

def reqPatternClose (pattern : Byte) : RequestOp := fun s =>
  match slotOf pattern.toNat with
  | none => refused .badValue s
  | some p =>
    match s.record p with
    | .opened h es =>
      match closeCheck s.settings.ceiling h es with
      | none => answered (s.setRecord p (.ready h es)) (u40 (rawPower es))
      | some .capExceeded => (s, checkFailed .capExceeded (u40 (rawPower es)))
      | some r => (s, checkFailed r [])
    | _ => refused .badState s

/-! ### Pattern Erase and Pattern Read (R13, R14) -/

def reqPatternErase (pattern : Byte) : RequestOp := fun s =>
  match slotOf pattern.toNat with
  | none => refused .badValue s
  | some p =>
    if s.inUse p then refused .inUse s
    else answered (s.setRecord p .empty) (u8 (s.record p).number)

/-- The seven header fields as value bytes (R14, R178). -/
def headerBytes (h : Header) : List Byte :=
  orNone 1 towerByte h.reference ++ posByte h.park ++ u16 h.cap ++ u16 h.ramp ++ u16 h.trimLimit
    ++ orNone 1 slotByte h.fallback ++ flag h.monitorFallback

/-- Item 0 of a record: state and use marks, and for an OPEN or READY record the header, the number of entries and the
raw power (R14). -/
def itemZero (s : State) (p : Slot) : List Byte :=
  let r := s.record p
  u8 r.number ++ markSet s p
    ++ (match r.header with
      | some h => headerBytes h ++ u8 r.entries.length ++ u40 (rawPower r.entries)
      | none => [])

/-- One entry as value bytes (R14). -/
def entryBytes (e : Entry) : List Byte :=
  towerByte e.tower ++ pair e.loaded ++ posByte e.position ++ pair e.expected ++ u8 e.tolerance ++ pair e.trim
    ++ pair e.effective

def reqPatternRead (pattern item : Byte) : RequestOp := fun s =>
  match slotOf pattern.toNat with
  | none => refused .badValue s
  | some p =>
    if item = 0 then answered s (itemZero s p)
    else
      match (s.record p).entries[item.toNat - 1]? with
      | some e => answered s (entryBytes e)
      | none => refused .notFound s

/-! ### Weight Trim (R15, R16) -/

/-- The new trim offset: the old one plus the delta, each component summed exactly and clamped to ± the trim limit (R15). -/
def trimmed (limit : Nat) (e : Entry) (delta : Cpx) : Entry :=
  { e with trim := ⟨clampTrim limit (e.trim.re + delta.re), clampTrim limit (e.trim.im + delta.im)⟩ }

/-- A record is the source or the target of the transition in flight (R15). -/
def State.collides (s : State) (p : Slot) : Bool := s.markSource p || s.markTarget p

/-- A stored trim of the live pattern in STEADY reaches the Live Weight Set and restarts the window (R16, R25, R88). -/
def applyLiveTrim (p : Slot) (e : Entry) (s : State) : State :=
  if s.markLive p then restartWindow (writeWeight e.tower e.effective s) else s

def reqWeightTrim (pattern tower : Byte) (deltaRe deltaIm : Half) : RequestOp := fun s =>
  match slotOf pattern.toNat with
  | none => refused .badValue s
  | some p =>
    match s.record p with
    | .ready h es =>
      match arrayTower s tower with
      | none => refused .badValue s
      | some t =>
        match entryFor es t with
        | none => refused .notFound s
        | some e =>
          if s.collides p then refused .collision s
          else
            let e' := trimmed h.trimLimit e ⟨signed16 deltaRe.toNat, signed16 deltaIm.toNat⟩
            let es' := putEntry e' es
            if withinCap (rawPower es') h.cap then
              answered (applyLiveTrim p e' (s.setRecord p (.ready h es')))
                (pair e'.trim ++ pair e'.effective ++ u40 (rawPower es'))
            else (s, checkFailed .capExceeded (u40 (rawPower es')))
    | _ => refused .badState s

end Sys2Proof.Machine
end

