-- ==== Sys2Proof/Machine/Shift.lean ====
section
/-! DEFINITION. The Shift Controller: the start of a transition, its phases, its success, failure and abort, the
safe drop, fallback resolution, and the Shift Queue (chapters 4 and 6). A failure's own transition is always a
FALLBACK one, and a FALLBACK transition that fails ends in a safe drop (R103, R105), so the definitions need no
recursion beyond the walk of links and the walk of the queue. -/

namespace Sys2Proof.Machine

/-! ### Ending (R41, R78) -/

/-- A transition ends where it stands: the step timer stops, the commanded targets are withdrawn, a VERIFY window in
progress is abandoned, and the Live Weight Set keeps the values last written (R78). -/
def endTransition (s : State) : State := clearDuty (withdrawAll (stopTimer s))

/-! ### The safe drop (R109, R111) -/

/-- ORDER_DISCARDED for an order (R59, R61, R109). -/
def discardOrder (o : Order) (s : State) : State := raise (.orderDiscarded o.target o.cause o.origin) s

/-- The queue is flushed head first, with ORDER_DISCARDED for each order (R109). -/
def flushQueue (s : State) : State := (s.shift.queue.foldl (fun s o => discardOrder o s) s).setQueue []

/-- The context a safe drop sets up (R109). -/
def safeDropContext (failed : Slot) (reason : Reason) (prior : Prior) (s : State) : Context :=
  { source := none, prior := prior, target := none, cause := .safe, origin := none, phase := .drop, switchSet := [],
    stepCount := 0, stepTotal := some s.settings.dropLength, startA := s.engine.live,
    endB := Vector.replicate 12 Cpx.zero, switchWait := 0, verifyUsed := 0, safeFor := some (failed, reason) }

/-- The end of a safe drop, before the queue is examined: SAFE, timer stopped, SAFE_ENTERED, flag as it was (R111). -/
def finishSafeDrop (c : Context) (s : State) : State :=
  let s := stopTimer (s.setArray .safe)
  match c.safeFor with
  | some (p, r) => raise (.safeEntered p r) s
  | none => s

/-- A safe drop starts; where every live weight is (0, 0) already it ends at once, and finds the queue empty
(R109, R111). -/
def safeDrop (failed : Slot) (reason : Reason) (prior : Prior) (s : State) : State :=
  let s := clearDuty (flushQueue s)
  let c := safeDropContext failed reason prior s
  let s := startTimer (s.setArray (.shifting c))
  if s.allZero then finishSafeDrop c s else s

/-! ### Fallback resolution (R106) -/

/-- The walk of fallback links from the current record, with `fuel` links left to examine and `count` examined. -/
def resolveFrom (s : State) (failed : Slot) : Nat → Nat → Slot → Option Slot × Nat
  | 0, count, _ => (none, count)
  | fuel + 1, count, current =>
    match (s.record current).header with
    | none => (none, count)
    | some h =>
      match h.fallback with
      | none => (none, count + 1)
      | some f =>
        if f ≠ failed ∧ s.usable f = true then (some f, count + 1)
        else resolveFrom s failed fuel (count + 1) f

/-- Fallback resolution from a failed pattern: the pattern found, if any, and the links examined (R106). -/
def resolve (s : State) (failed : Slot) : Option Slot × Nat := resolveFrom s failed Config.maxLinks 0 failed

/-! ### Phases (R66, R67, R68, R70, R72) -/

/-- DROP begins (R66). -/
def beginDrop (c : Context) (s : State) : State :=
  startTimer (s.setArray (.shifting
    { c with phase := .drop, stepCount := 0, stepTotal := some s.settings.dropLength, startA := s.engine.live }))

/-- CROSS begins: S is the target's ramp length, A the live weights, B the target's effective weights (R70). -/
def beginCross (c : Context) (target : Slot) (s : State) : State :=
  let r := s.record target
  let total :=
    match r.header with
    | some h => h.ramp
    | none => 0
  startTimer (s.setArray (.shifting
    { c with phase := .cross, stepCount := 0, stepTotal := some total, startA := s.engine.live,
             endB := tab fun t => r.weightFor t }))

/-- A switch-set tower is satisfied while its network is SETTLED at its wanted position (R67). -/
def State.satisfied (s : State) (target : Slot) (t : Tower) : Bool :=
  (s.net t).state == .settled ((s.record target).wanted t)

/-- SWITCH ends at the event after which every tower remaining in the switch set is satisfied; CROSS begins (R68). -/
def endSwitchIfDone (s : State) : State :=
  match s.shift.array with
  | .shifting c =>
    match c.phase, c.target with
    | .switch, some p => if c.switchSet.all (fun t => s.satisfied p t) then beginCross { c with stepTotal := none } p s else s
    | _, _ => s
  | _ => s

/-- The weight of a tower in the start vector A becomes (0, 0) (R74). -/
def zeroStart (t : Tower) (s : State) : State :=
  match s.shift.array with
  | .shifting c => s.setArray (.shifting { c with startA := c.startA.set t Cpx.zero })
  | _ => s

/-- A tower leaves the switch set, where it is in it, and its commanded target is withdrawn (R41, R69, R74). -/
def leaveSwitchSet (t : Tower) (s : State) : State :=
  match s.shift.array with
  | .shifting c =>
    if t ∈ c.switchSet then
      setCommanded t none (s.setArray (.shifting { c with switchSet := c.switchSet.filter fun u => u != t }))
    else s
  | _ => s

/-- The reason of a transition's failure at a tower, by the cause added (R74, R102). -/
def UnusableCause.reason : UnusableCause → Reason
  | .jammed => .jammed
  | .wrongPosition => .jammed
  | _ => .towerFault

/-- The reason at a tower whose move request was refused, by the causes it holds (R67, R74). No state the part reaches
refuses a request of SWITCH (R67). -/
def Causes.reason (c : Causes) : Reason := if c.jammed || c.wrongPosition then .jammed else .towerFault

/-- One move request to each tower in turn; a REFUSED answer is taken as R74 gives, and where the target drives the
tower the transition fails by `fail` and no further request is sent (R67). The flag tells whether the transition stands. -/
def sendMoves (fail : Reason → Option Tower → State → State) (target : Slot) : List Tower → State → State × Bool
  | [], s => (s, true)
  | t :: ts, s =>
    match requestMove t ((s.record target).wanted t) s with
    | (s', .refused) =>
      if (s'.record target).drives t then (fail (s'.tower t).causes.reason (some t) (zeroStart t s'), false)
      else sendMoves fail target ts (leaveSwitchSet t (zeroStart t s'))
    | (s', _) => sendMoves fail target ts s'

/-- SWITCH begins: the switch wait is 0, one move request goes to each tower of the switch set, and SWITCH ends in
the same event where every one of them is satisfied (R67). -/
def beginSwitchWith (fail : Reason → Option Tower → State → State) (c : Context) (target : Slot) (s : State) : State :=
  let s := s.setArray (.shifting { c with phase := .switch, stepCount := 0, stepTotal := none, switchWait := 0 })
  match sendMoves fail target c.switchSet s with
  | (s', true) => endSwitchIfDone s'
  | (s', false) => s'

/-! ### Starting a transition (R63) -/

/-- What a transition with a target starts from (R55, R62). -/
structure Start where
  source : Option Slot
  prior : Prior
  target : Slot
  cause : OrderCause
  origin : Origin

/-- The switch set: every tower within the array that is in service and whose network is not SETTLED at its wanted
position (R63). -/
def switchSetFor (s : State) (target : Slot) : List Tower :=
  allTowers.filter fun t => s.inArray t && !s.outOfService t && !s.satisfied target t

/-- The context a transition with a target begins with (R55, R63). The manual gives no switch wait before SWITCH begins;
the model begins it at 0 (DESIGN CHOICE, log entry 23). -/
def startContext (st : Start) (s : State) : Context :=
  { source := st.source, prior := st.prior, target := some st.target, cause := st.cause, origin := some st.origin,
    phase := .drop, switchSet := switchSetFor s st.target, stepCount := 0, stepTotal := none,
    startA := s.engine.live, endB := Vector.replicate 12 Cpx.zero, switchWait := 0, verifyUsed := 0,
    safeFor := none }

/-- A transition with a target begins in one event: the monitor's duty ends, the switch set is formed, and the first
phase is chosen and begins (R63, R84). -/
def beginTransitionWith (fail : Reason → Option Tower → State → State) (st : Start) (s : State) : State :=
  let s := clearDuty s
  let c := startContext st s
  if c.switchSet.any (fun t => s.live t != Cpx.zero) then beginDrop c s
  else if c.switchSet.isEmpty then beginCross c st.target s
  else beginSwitchWith fail c st.target s

/-! ### Failure handling (R78, R101 to R108) -/

/-- A failure to be handled (R101, R102, R108). -/
structure Failure where
  kind : FailureKind
  pattern : Slot
  reason : Reason
  tower : Option Tower
  cause : Option OrderCause
  source : Option Slot
  prior : Prior

/-- The last failure record of a failure answered by a FALLBACK order or by a safe drop (R108). -/
def failureRecord (f : Failure) (flag : Bool) (links : Nat) (fallback : Option Slot) (drop : Option Reason) : LastFailure :=
  { kind := f.kind, pattern := some f.pattern, reason := some f.reason, tower := f.tower, cause := f.cause,
    flag := some flag, links := links, outcome := some (if fallback.isSome then .fallback else .safeDrop),
    fallback := fallback, dropReason := drop }

/-- A head order takes its place: where the queue holds 4 orders the tail order is removed with ORDER_DISCARDED. The
head order itself is removed again in the same event (R59). -/
def makeRoomAtHead (s : State) : State :=
  if Config.queueDepth ≤ s.shift.queue.length then
    match s.shift.queue.getLast? with
    | some o => (discardOrder o s).setQueue s.shift.queue.dropLast
    | none => s
  else s

/-- The handling of a failure, in one event: second-failure test, resolution, result, record (R103, R107, R108, R109).
`start` starts the FALLBACK transition. -/
def handleFailureWith (start : Start → State → State) (f : Failure) (s : State) : State :=
  let flag := s.shift.fallbackFlag
  if f.cause = some .fallback ∨ flag = true then
    safeDrop f.pattern .secondFailure f.prior (s.setLastFailure (failureRecord f flag 0 none (some .secondFailure)))
  else
    match resolve s f.pattern with
    | (some p, links) =>
      raise (.fallbackStarted f.pattern p f.reason)
        (start { source := f.source, prior := f.prior, target := p, cause := .fallback, origin := .pattern f.pattern }
          (makeRoomAtHead (s.setLastFailure (failureRecord f flag links (some p) none))))
    | (none, links) =>
      safeDrop f.pattern .noFallback f.prior (s.setLastFailure (failureRecord f flag links none (some .noFallback)))

/-- A transition with a target fails: it ends where it stands, SHIFT_FAILED is raised, and the failure is handled
(R78, R103). -/
def failTransitionWith (start : Start → State → State) (detail : Option (Tower × Verdict × Nat)) (reason : Reason)
    (tower : Option Tower) (s : State) : State :=
  match s.shift.array with
  | .shifting c =>
    match c.target with
    | some p =>
      handleFailureWith start
        { kind := .transition, pattern := p, reason := reason, tower := tower, cause := some c.cause,
          source := c.source, prior := c.prior }
        (raise (.shiftFailed (some p) reason detail) (endTransition s))
    | none => s
  | _ => s

/-- A FALLBACK transition that fails at its own start: the second-failure test decides, so no further transition is
started (R103, R105). -/
def failFallback (reason : Reason) (tower : Option Tower) (s : State) : State :=
  failTransitionWith (fun _ s => s) none reason tower s

/-- A FALLBACK transition begins (R107). -/
def startFallback (st : Start) (s : State) : State := beginTransitionWith failFallback st s

/-- A failure is handled (R103). -/
def handleFailure (f : Failure) (s : State) : State := handleFailureWith startFallback f s

/-- A transition fails with a reason and a tower (R78). -/
def failTransition (reason : Reason) (tower : Option Tower) (s : State) : State :=
  failTransitionWith startFallback none reason tower s

/-- A transition fails with VERIFY_FAIL, naming the lowest-numbered tower that did not pass (R72, R97). -/
def failVerify (tower : Tower) (outcome : Verdict) (deviation : Nat) (s : State) : State :=
  failTransitionWith startFallback (some (tower, outcome, deviation)) .verifyFail (some tower) s

/-- A transition with a target begins (R63). -/
def beginTransition (st : Start) (s : State) : State := beginTransitionWith failTransition st s

/-- A failure of the live pattern in STEADY: SHIFT_FAILED is not raised (R102). -/
def failSteady (p : Slot) (reason : Reason) (tower : Tower) (s : State) : State :=
  handleFailure
    { kind := .steady, pattern := p, reason := reason, tower := some tower, cause := none, source := some p,
      prior := .steady } s

/-! ### Towers that fail or leave (R74, R102) -/

/-- A tower becomes unusable by a cause while the array is SHIFTING (R74, R110). -/
def towerLost (t : Tower) (reason : Reason) (s : State) : State :=
  match s.shift.array with
  | .shifting c =>
    let s := zeroStart t s
    match c.target with
    | some p =>
      if (s.record p).drives t then failTransition reason (some t) s
      else endSwitchIfDone (leaveSwitchSet t s)
    | none => s
  | _ => s

/-- The Tower Table tells the Shift Controller that a tower has become unusable (R74, R102, R123). -/
def towerUnusable (t : Tower) (cause : UnusableCause) (s : State) : State :=
  match s.shift.array with
  | .shifting _ => towerLost t cause.reason s
  | .steady p => if (s.record p).drives t then failSteady p cause.reason t s else s
  | _ => s

/-- A tower is locked out while the array is SHIFTING; Tower Lockout refuses a tower the target drives, so the
transition continues (R74, R125). -/
def towerLocked (t : Tower) (s : State) : State :=
  match s.shift.array with
  | .shifting _ => endSwitchIfDone (leaveSwitchSet t (zeroStart t s))
  | _ => s

/-- The Network Controller tells the Shift Controller that a held move was refused; taken once per tower, that is
while the tower is still in the switch set (R39, R48, R74). -/
def moveRefused (t : Tower) (s : State) : State :=
  match s.shift.array with
  | .shifting c => if t ∈ c.switchSet then towerLost t (s.tower t).causes.reason s else s
  | _ => s

/-- A tower enters DRIFTING: in a safe drop or an ABORT to zero its start weight becomes (0, 0) (R74, R110). -/
def towerDrifts (t : Tower) (s : State) : State :=
  match s.shift.array with
  | .shifting c => if c.target.isNone then zeroStart t s else s
  | _ => s

/-! ### The Shift Queue (R57, R61, R62) -/

/-- The source and prior state of a transition that starts while the array is not SHIFTING (R55). -/
def restingStart : ArrayState → Option Slot × Prior
  | .steady p => (some p, .steady)
  | .safe => (none, .safe)
  | _ => (none, .noPattern)

/-- A routine order removed from the head is tested and dropped, completes at once, or begins its transition (R62, R63). -/
def startRoutine (o : Order) (s : State) : State :=
  match o.target with
  | none => s
  | some p =>
    if (s.record p).isReady = false then raise (.shiftFailed (some p) .notReady none) s
    else if s.usable p = false then raise (.shiftFailed (some p) .notUsable none) s
    else if s.shift.array = .steady p then (raise (.shiftDone (some p) o.cause 0) s).setFlag false
    else
      beginTransition
        { source := (restingStart s.shift.array).1, prior := (restingStart s.shift.array).2, target := p,
          cause := o.cause, origin := o.origin } s

/-- Head orders are removed and examined one by one while the array is not SHIFTING; in SAFE an order that is not
MANUAL is discarded (R61). -/
def examineFrom : Nat → State → State
  | 0, s => s
  | n + 1, s =>
    if s.shifting then s
    else
      match s.shift.queue with
      | [] => s
      | o :: rest =>
        let s := s.setQueue rest
        if s.shift.array = .safe ∧ o.cause ≠ .manual then examineFrom n (discardOrder o s)
        else examineFrom n (startRoutine o s)

/-- The queue is examined (R61). -/
def examineQueue (s : State) : State := examineFrom s.shift.queue.length s

/-- The answers to a routine order offered to the queue (R57). -/
inductive OfferAnswer where
  | skipped
  | merged
  | full
  | entered
  deriving DecidableEq, Repr

/-- What the first line of R57's table that applies says of an order. -/
def offerAnswer (o : Order) (s : State) : OfferAnswer :=
  if o.cause ≠ .manual ∧ s.safeOrDropping = true then .skipped
  else if (s.shift.queue.getLast?.map fun tail => tail.target) = some o.target then .merged
  else if Config.queueDepth ≤ s.shift.queue.length then .full
  else .entered

/-- A routine order is offered to the queue; one entered while the array is not SHIFTING is examined at once (R57). -/
def offerOrder (o : Order) (s : State) : State :=
  if offerAnswer o s = .entered then examineQueue (s.setQueue (s.shift.queue ++ [o])) else s

/-! ### Success (R73, R77, R111) -/

/-- A transition with a target succeeds (R73). -/
def succeed (c : Context) (target : Slot) (s : State) : State :=
  examineQueue
    (setSteadyDuty target
      (raise (.shiftDone (some target) c.cause c.verifyUsed)
        ((withdrawAll (stopTimer (s.setArray (.steady target)))).setFlag (c.cause == .fallback))))

/-- The array state a prior state names at the end of an ABORT to zero; STEADY is named by no ABORT with target none
(R55, R77). -/
def Prior.resting : Prior → ArrayState
  | .safe => .safe
  | _ => .noPattern

/-- An ABORT transition with target none ends: the array takes its prior state and SHIFT_DONE is raised (R77). -/
def finishAbort (c : Context) (s : State) : State :=
  examineQueue (raise (.shiftDone none .abort c.verifyUsed) (withdrawAll (stopTimer (s.setArray c.prior.resting))))

/-- VERIFY begins: it succeeds at once where no entry is tested, and otherwise asks for a window (R72). -/
def beginVerify (c : Context) (target : Slot) (s : State) : State :=
  let c := { c with phase := .verify, stepCount := 0, stepTotal := none, verifyUsed := 0 }
  let s := stopTimer (s.setArray (.shifting c))
  if (s.record target).tested then setVerifyDuty target s else succeed c target s

/-- What a VERIFY window answers: none for PASS, or the lowest-numbered tower that did not pass (R97). -/
abbrev VerifyAnswer := Option (Tower × Verdict × Nat)

/-- The Shift Controller takes the answer of a VERIFY window (R72). -/
def verifyAnswered (a : VerifyAnswer) (s : State) : State :=
  match s.shift.array with
  | .shifting c =>
    match c.phase, c.target with
    | .verify, some p =>
      let c := { c with verifyUsed := c.verifyUsed + 1 }
      let s := s.setArray (.shifting c)
      match a with
      | none => succeed c p s
      | some (t, v, d) => if c.verifyUsed < s.settings.verifyTries then setVerifyDuty p s else failVerify t v d s
    | _, _ => s
  | _ => s

/-! ### Steps (R64, R66, R70, R77, R110) -/

/-- A component ramped toward zero: a × (D − s) / D, truncated toward zero (R66). -/
def dropValue (a : Int) (total step : Nat) : Int := (a * ((total : Int) - step)).tdiv total

/-- A component of a CROSS step: (a × (S − s) + b × s) / S, truncated toward zero (R70). -/
def crossValue (a b : Int) (total step : Nat) : Int := (a * ((total : Int) - step) + b * step).tdiv total

def dropWeight (a : Cpx) (total step : Nat) : Cpx := ⟨dropValue a.re total step, dropValue a.im total step⟩

def crossWeight (a b : Cpx) (total step : Nat) : Cpx :=
  ⟨crossValue a.re b.re total step, crossValue a.im b.im total step⟩

/-- The twelve weights a step writes, by the phase; a transition with no target ramps every tower to zero, an ordinary
DROP the towers of its switch set (R66, R70, R77, R110). -/
def stepWeights (c : Context) (step : Nat) (t : Tower) : Cpx :=
  let total := c.stepTotal.getD 1
  match c.phase with
  | .cross => crossWeight (c.startA.get t) (c.endB.get t) total step
  | _ => if c.target.isNone ∨ t ∈ c.switchSet then dropWeight (c.startA.get t) total step else c.startA.get t

/-- What the last step of a ramp leads to: VERIFY, SWITCH, SAFE, or the end of an ABORT to zero (R66, R70, R77, R111). -/
def rampEnded (c : Context) (s : State) : State :=
  match c.target with
  | none => if c.cause = .safe then examineQueue (finishSafeDrop c s) else finishAbort c s
  | some p => if c.phase = .cross then beginVerify c p s else beginSwitchWith failTransition c p (stopTimer s)

/-- One step of the running ramp: the counter advances, all twelve weights are written as one write, and the last
step ends the phase (R64, R66, R70). -/
def takeStep (s : State) : State :=
  match s.shift.array with
  | .shifting c =>
    if c.phase = .drop ∨ c.phase = .cross then
      let step := c.stepCount + 1
      let c' := { c with stepCount := step }
      let s := writeAllWeights (stepWeights c step) (s.setArray (.shifting c'))
      if c.stepTotal.getD 1 ≤ step then rampEnded c' s else s
    else s
  | _ => s

/-! ### The switch wait (R69) -/

/-- The towers of the switch set that are neither satisfied nor MOVING are taken as failed moves in ascending order:
the first that the target drives fails the transition, the others leave the switch set (R69). -/
def timeOutMoves (target : Slot) : List Tower → State → State
  | [], s => endSwitchIfDone s
  | t :: ts, s =>
    if s.satisfied target t || (s.net t).state.isMoving then timeOutMoves target ts s
    else if (s.record target).drives t then failTransition .jammed (some t) s
    else timeOutMoves target ts (leaveSwitchSet t s)

/-- The switch wait stands at or above TRAVEL_LIMIT (R69). -/
def switchTimedOut (s : State) : State :=
  match s.shift.array with
  | .shifting c =>
    match c.phase, c.target with
    | .switch, some p => if s.settings.travelLimit ≤ c.switchWait then timeOutMoves p c.switchSet s else s
    | _, _ => s
  | _ => s

/-! ### Abort (R62, R76, R77) -/

/-- An ABORT transition with target none begins its drop, or ends at once where every live weight is (0, 0) (R77). -/
def abortToZero (prior : Prior) (origin : Origin) (s : State) : State :=
  let c : Context :=
    { source := none, prior := prior, target := none, cause := .abort, origin := some origin, phase := .drop,
      switchSet := [], stepCount := 0, stepTotal := some s.settings.dropLength, startA := s.engine.live,
      endB := Vector.replicate 12 Cpx.zero, switchWait := 0, verifyUsed := 0, safeFor := none }
  let s := startTimer (s.setArray (.shifting c))
  if s.allZero then finishAbort c s else s

/-- The ABORT order is started: to zero where the source is none, toward the source where it is usable, and otherwise
as a transition that failed at its start (R62). -/
def startAbort (source : Option Slot) (prior : Prior) (origin : Origin) (s : State) : State :=
  match source with
  | none => abortToZero prior origin s
  | some p =>
    if s.usable p then
      beginTransition { source := some p, prior := prior, target := p, cause := .abort, origin := origin } s
    else
      handleFailure
        { kind := .transition, pattern := p, reason := .notUsable, tower := none, cause := some .abort,
          source := some p, prior := prior }
        (raise (.shiftFailed (some p) .notUsable none) s)

/-- Abort of the transition in flight (R76): it ends where it stands with SHIFT_FAILED ABORTED, and an ABORT order
toward its source is placed at the head and started. -/
def abortTransition (c : Context) (port : Port) (s : State) : State :=
  startAbort c.source c.prior (.port port)
    (makeRoomAtHead (raise (.shiftFailed c.target .aborted none) (endTransition s)))

end Sys2Proof.Machine
end

