-- ==== Sys2Proof/Machine/Monitor.lean ====
section
/-! DEFINITION. The Array Monitor: averaging, the tolerance test, the judging of a window, failure counts and out
events, and what a completed window tells the Shift Controller (chapter 5). -/

namespace Sys2Proof.Machine

/-- Division by W rounded to the nearest integer, ties toward positive (R91). -/
def roundTiesUp (n : Int) (w : Nat) : Int := (2 * n + w).fdiv (2 * w)

/-- The averaged phasor of a tower: formed where the tower is complete, (0, 0) where it is short (R91). -/
def Window.average (w : Window) (t : Tower) : Cpx :=
  if w.complete t then
    ⟨roundTiesUp (w.acc.get t).sum.re w.reports, roundTiesUp (w.acc.get t).sum.im w.reports⟩
  else Cpx.zero

/-- The expected measure E: X times R as complex numbers (R93). -/
def expectedMeasure (x r : Cpx) : Cpx := ⟨x.re * r.re - x.im * r.im, x.re * r.im + x.im * r.re⟩

/-- The difference D: 16384 × M − E (R93). -/
def difference (m e : Cpx) : Cpx := ⟨Config.unity * m.re - e.re, Config.unity * m.im - e.im⟩

/-- 65536 × |D|² is not greater than T² × |E|² (R93). -/
def withinTolerance (d e : Cpx) (tolerance : Nat) : Bool :=
  decide (65536 * Cpx.power d ≤ tolerance * tolerance * Cpx.power e)

/-- The smallest T′ from 0 to 255 that the test admits, 255 where there is none (R93). -/
def deviationOf (d e : Cpx) : Nat := ((List.range 256).find? fun k => withinTolerance d e k).getD 255

/-- The reference gives no measure: it is short, or its average is (0, 0) (R92). -/
def Window.referenceLost (w : Window) : Bool := !w.complete w.reference || w.average w.reference == Cpx.zero

/-- The outcome and deviation of a tested tower that is not the reference (R92, R93). -/
def Window.judgeTested (w : Window) (e : TestEntry) : Verdict × Nat :=
  if w.referenceLost then (.refSilent, 255)
  else if w.complete e.tower then
    let m := expectedMeasure e.expected (w.average w.reference)
    let d := difference (w.average e.tower) m
    (if withinTolerance d m e.tolerance then .pass else .fail, deviationOf d m)
  else (.silent, 255)

/-- The outcome and deviation of a tower in a completed window (R92, R93, R94). -/
def Window.judge (w : Window) (t : Tower) : Verdict × Nat :=
  if t = w.reference then (if w.complete t then (.pass, 0) else (.silent, 255))
  else
    match w.tests.find? fun e => e.tower == t with
    | some e => w.judgeTested e
    | none => (.untested, 0)

/-- The consecutive-failure count after an outcome (R95). -/
def countAfter (count : Nat) (v : Verdict) : Nat :=
  match v with
  | .pass => 0
  | .untested => 0
  | _ => if count < Config.failCountTop then count + 1 else count

/-- A tower of the tested set has an out event in a STEADY window: its count, moved by R95, is at or above FAIL_LIMIT
and its out flag is clear (R95, R96). -/
def goesOut (s : State) (w : Window) (t : Tower) : Bool :=
  let v := (w.judge t).1
  let r := s.monitor.records.get t
  w.tested t && v != .pass && !r.out && decide (s.settings.failLimit ≤ countAfter r.failCount v)

/-- The monitor record of a tower after a completed window; `steady` tells a STEADY window (R94, R95, R96). -/
def recordAfter (s : State) (w : Window) (steady : Bool) (t : Tower) : MonRecord :=
  let r := s.monitor.records.get t
  if w.tested t then
    let (v, d) := w.judge t
    { average := w.average t, deviation := d, outcome := v, failCount := countAfter r.failCount v,
      out := if v = .pass then false else r.out || (steady && goesOut s w t), windows := (r.windows + 1) % 65536 }
  else r.untest

/-- The out events of a STEADY window, in ascending tower order (R96). -/
def outEvents (s : State) (w : Window) : List Tower := allTowers.filter fun t => goesOut s w t

/-- The answer of a VERIFY window: the lowest-numbered tower that did not pass (R97). -/
def verifyAnswer (w : Window) : VerifyAnswer :=
  (allTowers.find? fun t => w.tested t && (w.judge t).1 != .pass).map fun t => (t, w.judge t)

/-- The monitor tells the Shift Controller of an out event: a failure of the live pattern where its option is on
(R98, R102). -/
def monitorFailed (p : Slot) (outs : List Tower) (s : State) : State :=
  match outs, (s.record p).header with
  | t :: _, some h => if h.monitorFallback then failSteady p .monitorOut t s else s
  | _, _ => s

/-- While the duty is still STEADY the next window begins in the completing event (R98). -/
def nextSteadyWindow (s : State) : State :=
  match s.monitor.duty with
  | .steady _ => restartWindow s
  | _ => s

/-- A window completes and is judged: records, counts and out events, then the answer or the STEADY watch (R87,
R94 to R98). -/
def completeWindow (w : Window) (s : State) : State :=
  match s.monitor.duty with
  | .steady p =>
    let outs := outEvents s w
    let judged := (s.setMonRecords (tab fun t => recordAfter s w true t)).setWindow none
    let noticed := outs.foldl (fun x t => raise (.monitorOut t (w.judge t).2) x) judged
    nextSteadyWindow (monitorFailed p outs noticed)
  | _ =>
    verifyAnswered (verifyAnswer w)
      (clearDuty (s.setMonRecords (tab fun t => recordAfter s w false t)))

/-- A window with one more report of a tower counted (R86). -/
def Window.count (w : Window) (t : Tower) (z : Cpx) : Window :=
  let a := w.acc.get t
  { w with acc := w.acc.set t { count := a.count + 1, sum := ⟨a.sum.re + z.re, a.sum.im + z.im⟩ } }

/-- The phasor of a return slot is counted or ignored, and the report that makes the last tower complete completes
the window (R86, R87). -/
def phasorReport (t : Tower) (phasor : Option Cpx) (s : State) : State :=
  match s.monitor.window, phasor with
  | some w, some z =>
    if w.tested t && (s.net t).state.isSettled && !w.complete t then
      let w := w.count t z
      if w.full then completeWindow w s else s.setWindow (some w)
    else s
  | _, _ => s

/-- The window timer has reached the window limit (R87). -/
def windowTimedOut (s : State) : State :=
  match s.monitor.window with
  | some w => if w.limit ≤ w.timer then completeWindow w s else s
  | none => s

end Sys2Proof.Machine
end

