-- ==== Sys2Proof/Machine/Towers.lean ====
section
/-! DEFINITION. The Tower Link's inbound side and the Network Controller: causes, network reports, return slots, the
silence and travel limits, and the resizing of the array (chapters 3 and 7). -/

namespace Sys2Proof.Machine

/-! ### Causes (R48, R123) -/

/-- A tower that becomes unusable while MOVING loses its commanded target; the move goes on (R48). -/
def dropHeldTarget (t : Tower) (s : State) : State :=
  if (s.net t).state.isMoving then setCommanded t none s else s

/-- A cause is added to a tower's set: TOWER_FAULT is raised, and a first cause makes the tower unusable, forces its
weight to (0, 0) and tells the Shift Controller. A cause the set holds already is not added again (R121, R122, R123;
log entry 6). -/
def addCause (t : Tower) (c : UnusableCause) (s : State) : State :=
  let e := s.tower t
  if e.causes.has c then s
  else
    let s := raise (.towerFault t c) (s.setTower t { e with causes := e.causes.add c })
    if e.causes.any then s else towerUnusable t c (forceZero t (dropHeldTarget t s))

/-! ### Network reports (R37, R39, R45, R46, R49, R50) -/

/-- The commanded target is examined at a settle report at `r` (R39). -/
def examineTarget (t : Tower) (r : Pos) (s : State) : State :=
  match (s.net t).commanded with
  | none => s
  | some q =>
    if q = r then setCommanded t none s
    else if !s.outOfService t && s.live t == Cpx.zero then startMove t r q s
    else moveRefused t (setCommanded t none s)

/-- The rest of every settle report: the commanded target is examined, and the Shift Controller hears of the settle
(R39, R42, R68). -/
def settleReported (t : Tower) (r : Pos) (s : State) : State := endSwitchIfDone (examineTarget t r s)

/-- The network state becomes SETTLED at `r` (R49, R50). -/
def settleAt (t : Tower) (r : Pos) (s : State) : State := s.setNet t { s.net t with state := .settled r }

/-- A move ends at `r`: the travel timer is captured into the last travel time (R44, R45, R46). -/
def endMoveAt (t : Tower) (r : Pos) (s : State) : State :=
  s.setNet t { s.net t with state := .settled r, lastTravel := (s.net t).travelTimer }

/-- The network enters DRIFTING: the zero hold comes on and forces the weight to (0, 0) (R26, R49, R50). -/
def enterDrifting (t : Tower) (s : State) : State :=
  towerDrifts t (forceZero t (s.setNet t { s.net t with state := .drifting }))

/-- A move ends as commanded, with CONTACTOR_SLOW where the captured time is above TRAVEL_WARN (R45). -/
def moveCompleted (t : Tower) (q : Pos) (s : State) : State :=
  let time := (s.net t).travelTimer
  let s := endMoveAt t q s
  settleReported t q (if s.settings.travelWarn < time then raise (.contactorSlow t time) s else s)

/-- A network report is taken by the rule for the state its record is in (R37). -/
def networkReport (t : Tower) (report : NetReport) (s : State) : State :=
  match (s.net t).state, report with
  | .unknown, .settled p => settleReported t p (settleAt t p s)
  | .unknown, .travel => enterDrifting t s
  | .settled p, .settled r =>
    if r = p then s else settleReported t r (addCause t .upset (forceZero t (settleAt t r s)))
  | .settled _, .travel => addCause t .upset (enterDrifting t s)
  | .moving q start, .settled r =>
    if r = q then moveCompleted t q s
    else if r = start then s
    else settleReported t r (addCause t .wrongPosition (endMoveAt t r s))
  | .moving _ _, .travel => s
  | .jammed, .settled r => settleReported t r (settleAt t r s)
  | .jammed, .travel => s
  | .drifting, .settled r => settleReported t r (settleAt t r s)
  | .drifting, .travel => s

/-! ### Return slots (R118, R119, R121) -/

/-- Stage 1: the Tower Table entry is updated (R118). -/
def storeSlot (t : Tower) (r : SlotReport) (s : State) : State :=
  s.setTower t { s.tower t with present := true, silenceTimer := 0, silenceRunning := true, lastSlot := some r }

/-- Stage 2: the PA report is stored, and a FAULT report adds PA_FAULT (R121). -/
def paReport (t : Tower) (fault : Bool) (s : State) : State :=
  let s := s.setTower t { s.tower t with paFault := fault }
  if fault then addCause t .paFault s else s

/-- A return slot is taken in one event, in four stages; an empty slot and a slot above ARRAY_SIZE change nothing
(R118, R119). -/
def returnSlot (t : Tower) (slot : Option SlotReport) (s : State) : State :=
  match slot with
  | none => s
  | some r =>
    if s.inArray t then phasorReport t r.phasor (networkReport t r.network (paReport t r.paFault (storeSlot t r s)))
    else s

/-- A Tower Return Frame: a bad one is discarded whole and counted, a good one is taken slot by slot in ascending
tower order (R117). -/
def towerReturn (bytes : List Byte) (s : State) : State :=
  match decodeTowerReturn bytes with
  | some slots => slots.foldl (fun s x => returnSlot x.1 x.2 s) s
  | none => { s with link := { s.link with returnErrors := bump s.link.returnErrors } }

/-! ### Limits (R47, R122) -/

/-- The travel timer of a MOVING record has reached TRAVEL_LIMIT: the network becomes JAMMED and the JAMMED cause is
added (R47). -/
def travelTimedOut (t : Tower) (s : State) : State :=
  let n := s.net t
  if n.state.isMoving && decide (s.settings.travelLimit ≤ n.travelTimer) then
    addCause t .jammed
      (s.setNet t { n with state := .jammed, commanded := none, lastTravel := s.settings.travelLimit })
  else s

/-- A running silence timer has reached SILENCE_TIME: it stops, the tower becomes not present, and SILENT is added
(R122). -/
def silenceTimedOut (t : Tower) (s : State) : State :=
  let e := s.tower t
  if e.silenceRunning && decide (s.settings.silenceTime ≤ e.silenceTimer) then
    addCause t .silent (s.setTower t { e with silenceRunning := false, present := false })
  else s

/-! ### ARRAY_SIZE (R51, R124) -/

/-- A Tower Table entry cleared by a change of the array size, its lockout kept (R124). -/
def TowerEntry.cleared (e : TowerEntry) (running : Bool) : TowerEntry :=
  { present := false, paFault := false, lockout := e.lockout, causes := Causes.none, silenceTimer := 0,
    silenceRunning := running, lastSlot := none }

/-- A network record set to UNKNOWN, its last travel time kept (R51). -/
def NetRecord.forgotten (n : NetRecord) : NetRecord :=
  { state := .unknown, commanded := none, travelTimer := 0, lastTravel := n.lastTravel }

/-- An accepted ARRAY_SIZE write acts on the Tower Table and on the network records; a write of the value in force
changes nothing (R51, R124). -/
def resizeArray (size : Nat) (s : State) : State :=
  let old := s.settings.arraySize
  if size = old then s
  else
    let towers := tab fun t : Tower =>
      if size ≤ t.val then (s.tower t).cleared false
      else if old ≤ t.val then (s.tower t).cleared true
      else s.tower t
    let nets := tab fun t : Tower => if size < old ∧ size ≤ t.val then (s.net t).forgotten else s.net t
    { s with settings := { s.settings with arraySize := size }, link := { s.link with towers := towers }, nets := nets }

end Sys2Proof.Machine
end

