-- ==== Sys2Proof/Machine/Timebase.lean ====
section
/-! DEFINITION. The clock of day, the Schedule Table's firings, the Contact Inputs, the millisecond tick and the
events it brings about (chapter 9). A tick advances every counter; the events whose limits it reached stand in
`State.due`, where the event commands take them in any order; what is left is taken in the order of R146's table
before the next other command (assumption log, entries 1 and 2). -/

namespace Sys2Proof.Machine

/-! ### Schedule (R153, R154) -/

/-- The reason that skips a firing, if any (R154). -/
def skipReason (e : ScheduleEntry) (s : State) : Option Reason :=
  if s.schedule.hold then some .held
  else if s.safeOrDropping then some .safe
  else if (s.record e.pattern).isReady = false then some .notReady
  else if Config.queueDepth ≤ s.shift.queue.length
      ∧ (s.shift.queue.getLast?.map fun o => o.target) ≠ some (some e.pattern) then some .queueFull
  else none

/-- A firing is skipped with its notice, or its SCHEDULE order is offered to the queue (R154). -/
def fireEntry (e : ScheduleEntry) (s : State) : State :=
  match skipReason e s with
  | some r => raise (.scheduleSkipped e.time r) s
  | none => offerOrder { target := some e.pattern, cause := .schedule, origin := .time e.time } s

/-- The entry that fires at the second and weekday as they stand after an advance (R153). -/
def firingEntry (s : State) : Option ScheduleEntry :=
  s.schedule.entries.find? fun e => e.time == s.timebase.second && e.days.getLsbD s.timebase.weekday.val

/-- The second advances, and at 86399 the weekday with it; the sub-second count becomes 0 (R148). -/
def Timebase.advanced (b : Timebase) : Timebase :=
  if b.second = 86399 then { b with second := 0, weekday := b.weekday + 1, subsecond := 0 }
  else { b with second := b.second + 1, subsecond := 0 }

/-- The sub-second count would reach 1000: the second advances, and an entry at it fires (R148, R153). -/
def secondReached (s : State) : State :=
  if s.timebase.clock = .running ∧ 999 ≤ s.timebase.subsecond then
    let s := s.setTimebase s.timebase.advanced
    match firingEntry s with
    | some e => fireEntry e s
    | none => s
  else s

/-! ### Contact lines (R155 to R158) -/

/-- The level that a tick samples on a line, read through its sense (R155, R156). -/
def ContactLine.sampled (l : ContactLine) : Bool := l.sense.read l.input

/-- A CONTACT order is discarded, or offered to the queue and discarded where the queue is full (R157). -/
def contactOrder (l : Line) (p : Slot) (s : State) : State :=
  let o : Order := { target := some p, cause := .contact, origin := .line l }
  if s.safeOrDropping || !(s.record p).isReady then discardOrder o s
  else if offerAnswer o s = .full then discardOrder o s
  else offerOrder o s

/-- A debounced change acts by the line's action; a change of the mute state reaches the monitor (R34, R157, R158). -/
def contactAction (l : Line) (muteBefore : Bool) (s : State) : State :=
  match (s.line l).action with
  | .none => s
  | .shiftOnActive p => if (s.line l).active then contactOrder l p s else s
  | .shiftPair p q => if (s.line l).active then contactOrder l p s else contactOrder l q s
  | .mute => muteChanged muteBefore s

/-- The debounce count exceeds DEBOUNCE: the debounced level takes the sampled level, and the change acts (R156). -/
def contactChanged (l : Line) (s : State) : State :=
  let c := s.line l
  if c.sampled ≠ c.active ∧ s.settings.debounce < c.count then
    contactAction l s.mute (s.setLine l { c with active := c.sampled, count := 0 })
  else s

/-! ### The millisecond tick (R146) -/

/-- The step timer lowers its counter (R64). -/
def StepTimer.ticked (t : StepTimer) : StepTimer := if t.running then { t with counter := t.counter - 1 } else t

/-- The switch wait rises while SWITCH lasts and stops at 5000 (R69). -/
def ArrayState.ticked : ArrayState → ArrayState
  | .shifting c =>
    if c.phase = .switch then
      .shifting { c with switchWait := if c.switchWait < Config.switchWaitTop then c.switchWait + 1 else c.switchWait }
    else .shifting c
  | a => a

/-- The travel timer of a MOVING record advances (R44). -/
def NetRecord.ticked (n : NetRecord) : NetRecord :=
  if n.state.isMoving then { n with travelTimer := n.travelTimer + 1 } else n

/-- A running silence timer rises (R122). -/
def TowerEntry.ticked (e : TowerEntry) : TowerEntry :=
  if e.silenceRunning then { e with silenceTimer := e.silenceTimer + 1 } else e

/-- The window timer rises while the window is COLLECTING (R87). -/
def Window.ticked (w : Window) : Window := { w with timer := w.timer + 1 }

/-- A port's last-frame age rises and stays at 65535 (R131). -/
def PortState.ticked (p : PortState) : PortState := { p with age := bump p.age }

/-- The sub-second count of a running clock rises; the tick at which it would reach 1000 leaves it to the advance of
the second (R148). -/
def Timebase.ticked (b : Timebase) : Timebase :=
  if b.clock = .running ∧ b.subsecond < 999 then { b with subsecond := b.subsecond + 1 } else b

/-- A line is sampled at an electrical level: its debounce count becomes 0 or rises (R156). Behind the tick it stands at
a level of its own (log entry 3). -/
def ContactLine.ticked (c : ContactLine) (input pin : Bool) : ContactLine :=
  let c := { c with input := input, pin := pin }
  if c.sampled = c.active then { c with count := 0 } else { c with count := c.count + 1 }

/-- Every millisecond counter of the part advances by its own block's rule (R146). -/
def advanceCounters (levels pins : BitVec 4) (s : State) : State :=
  { s with
    shift := { s.shift with timer := s.shift.timer.ticked, array := s.shift.array.ticked }
    nets := tab fun t => (s.net t).ticked
    link := { s.link with towers := tab fun t => (s.tower t).ticked }
    monitor := { s.monitor with window := s.monitor.window.map Window.ticked }
    portA := s.portA.ticked
    portB := s.portB.ticked
    timebase := s.timebase.ticked
    lines := tab fun l => (s.line l).ticked (levels.getLsbD l.val) (pins.getLsbD l.val) }

/-- An event stands at the end of a tick: its counter has reached its limit. `before` is the state before the tick,
where the sub-second count still tells whether it would reach 1000 (R64, R69, R47, R122, R87, R131, R136, R148, R156). -/
def eventReached (before after : State) : TickEvent → Bool
  | .stepTimer => after.shift.timer.running && after.shift.timer.counter == 0
  | .switchWait =>
    match after.shift.array with
    | .shifting c => c.phase == .switch && decide (after.settings.travelLimit ≤ c.switchWait)
    | _ => false
  | .travel t => (after.net t).state.isMoving && decide (after.settings.travelLimit ≤ (after.net t).travelTimer)
  | .silence t =>
    (after.tower t).silenceRunning && decide (after.settings.silenceTime ≤ (after.tower t).silenceTimer)
  | .windowLimit =>
    match after.monitor.window with
    | some w => decide (w.limit ≤ w.timer)
    | none => false
  | .holdover p => (after.port p).present && decide (after.settings.holdover ≤ (after.port p).age)
  | .ownerLoss =>
    after.selector.condition == .live && decide (after.settings.holdover ≤ (after.port after.selector.owner).age)
  | .second => before.timebase.clock == .running && decide (999 ≤ before.timebase.subsecond)
  | .contact l => (after.line l).sampled != (after.line l).active && decide (after.settings.debounce < (after.line l).count)

/-- Every event a tick can bring about, in the order of R146's table, towers and lines ascending (log entry 2). -/
def allEvents : List TickEvent :=
  [.stepTimer, .switchWait] ++ allTowers.map .travel ++ allTowers.map .silence
    ++ [.windowLimit, .holdover .A, .holdover .B, .ownerLoss, .second] ++ allLines.map .contact

/-- One tick: the counters advance, and the events whose limits are reached become due (R146). -/
def tick (levels pins : BitVec 4) (s : State) : State :=
  let after := advanceCounters levels pins s
  after.setDue (allEvents.filter fun e => eventReached s after e)

/-- The step timer has reached 0: its counter is reloaded and one step of the running ramp is taken (R64). -/
def stepTimerExpired (s : State) : State :=
  if s.shift.timer.running ∧ s.shift.timer.counter = 0 then
    takeStep (s.setTimer { s.shift.timer with counter := s.settings.stepPeriod })
  else s

/-- An event of a tick acts at its block. Each tests its own condition on the state it finds, since an event of the
same tick taken before it may have ended what it belongs to (R146). -/
def runEvent : TickEvent → State → State
  | .stepTimer, s => stepTimerExpired s
  | .switchWait, s => switchTimedOut s
  | .travel t, s => travelTimedOut t s
  | .silence t, s => silenceTimedOut t s
  | .windowLimit, s => windowTimedOut s
  | .holdover p, s => holdoverExpired p s
  | .ownerLoss, s => ownerLost s
  | .second, s => secondReached s
  | .contact l, s => contactChanged l s

/-- An event command takes its event where it is due, and changes nothing where it is not (log entry 1). -/
def takeDue (e : TickEvent) (s : State) : State :=
  if e ∈ s.due then runEvent e (s.setDue (s.due.erase e)) else s

/-- The events of the last tick that are still due are taken in their order (log entries 1 and 2). -/
def settle (s : State) : State := s.due.foldl (fun s e => runEvent e s) (s.setDue [])

end Sys2Proof.Machine
end

