-- ==== Sys2Proof/Machine/Requests.lean ====
section
/-! DEFINITION. The requests of the Shift Controller, the Tower Table, the Timebase, the Schedule Table, the Contact
Inputs, the Source Selector and the Notice Selector (chapters 4, 7, 8, 9 and 10). -/

namespace Sys2Proof.Machine

/-! ### Shift, Shift Cancel, Abort (R58, R60, R76) -/

/-- A MANUAL order is offered to the queue; the reply says whether it merged and how many orders wait after it (R58). -/
def reqShift (port : Port) (pattern : Byte) : RequestOp := fun s =>
  match slotOf pattern.toNat with
  | none => refused .badValue s
  | some p =>
    if (s.record p).isReady = false then refused .badState s
    else if s.usable p = false then refused .notUsable s
    else
      let o : Order := { target := some p, cause := .manual, origin := .port port }
      let s' := offerOrder o s
      match offerAnswer o s with
      | .full => refused .queueFull s
      | a => (s', { code := .accepted, reason := none, values := flag (a == .merged) ++ u8 s'.shift.queue.length })

def OrderCause.isRoutine : OrderCause → Bool
  | .manual => true
  | .schedule => true
  | .contact => true
  | _ => false

/-- Every routine order waiting is removed, with no notice (R60). -/
def reqShiftCancel : RequestOp := fun s =>
  let kept := s.shift.queue.filter fun o => !o.cause.isRoutine
  answered (s.setQueue kept) (u8 (s.shift.queue.length - kept.length))

/-- Abort is refused BAD_STATE outside SHIFTING and in a safe drop (R76). -/
def reqAbort (port : Port) : RequestOp := fun s =>
  match s.shift.array with
  | .shifting c => if c.cause = .safe then refused .badState s else answered (abortTransition c port s) []
  | _ => refused .badState s

/-! ### Tower Lockout, Tower Restore, Tower Status (R125, R126, R127) -/

/-- The reply to an accepted Tower Lockout: the lockout before and after (R125). -/
def lockoutReply (before after : Bool) : List Byte := flag before ++ flag after

/-- The lockout becomes on: the weight is forced to (0, 0), and a transition in flight is told (R26, R74, R125). -/
def lockOut (t : Tower) (s : State) : State :=
  towerLocked t (forceZero t (s.setTower t { s.tower t with lockout := true }))

def reqTowerLockout (tower value : Byte) : RequestOp := fun s =>
  match arrayTower s tower with
  | none => refused .badValue s
  | some t =>
    let before := (s.tower t).lockout
    match onOff value with
    | none => refused .badValue s
    | some false => answered (s.setTower t { s.tower t with lockout := false }) (lockoutReply before false)
    | some true =>
      if (s.net t).state.isMoving then refused .busy s
      else if s.drivenInUse t then refused .inUse s
      else if before then answered s (lockoutReply true true)
      else answered (lockOut t s) (lockoutReply false true)

/-- Tower Restore: every cause is removed, and the reply returns the set of them, with no bit set where there was none
(R126; DEDUCED, log entry 28). -/
def reqTowerRestore (tower : Byte) : RequestOp := fun s =>
  match arrayTower s tower with
  | none => refused .badValue s
  | some t =>
    let e := s.tower t
    if e.paFault || !e.present || !(s.net t).state.isSettled then refused .badState s
    else answered (s.setTower t { e with causes := Causes.none }) (causeSet e.causes)

/-- The Tower Table entry as value bytes (R127, R178). -/
def towerEntryBytes (e : TowerEntry) : List Byte :=
  flag e.present ++ u8 (if e.paFault then 1 else 0) ++ flag e.lockout ++ causeSet e.causes ++ u16 e.silenceTimer
    ++ flag e.silenceRunning ++ returnSlotBytes e.lastSlot

/-- The travel time a Tower Status returns: the running timer in MOVING, the last travel time otherwise (R53). -/
def NetRecord.travelTime (n : NetRecord) : Nat := if n.state.isMoving then n.travelTimer else n.lastTravel

/-- The network record as value bytes (R53, R127). -/
def netBytes (n : NetRecord) : List Byte :=
  u8 n.state.number ++ orNone 1 posByte n.state.position ++ orNone 1 posByte n.commanded ++ u16 n.travelTime
    ++ orNone 1 posByte n.state.start

/-- The gate conditions of R32 that hold for a tower's slot, in the order of R32's list (R35, R127). -/
def gateSet (s : State) (t : Tower) : Nat :=
  bitSet [!s.inArray t, (s.tower t).lockout, s.unusable t, s.mute]

/-- The engine's items of a Tower Status (R35, R127). -/
def engineBytes (s : State) (t : Tower) : List Byte :=
  pair (s.live t) ++ flag (s.gated t) ++ u8 (gateSet s t) ++ u16 (s.engine.saturation.get t)

/-- A monitor record as value bytes (R83, R127). -/
def monRecordBytes (r : MonRecord) : List Byte :=
  pair r.average ++ u8 r.deviation ++ u8 r.outcome.number ++ u8 r.failCount ++ flag r.out ++ u16 r.windows

/-- Membership of the window in progress, and the report count in it, none for a tower outside it (R100, R127). -/
def membershipBytes (s : State) (t : Tower) : List Byte :=
  match s.monitor.window.filter fun w => w.tested t with
  | some w => flag true ++ u8 (w.acc.get t).count
  | none => flag false ++ [255]

def reqTowerStatus (tower : Byte) : RequestOp := fun s =>
  match towerOf tower.toNat with
  | none => refused .badValue s
  | some t =>
    answered s (towerEntryBytes (s.tower t) ++ netBytes (s.net t) ++ engineBytes s t
      ++ monRecordBytes (s.monitor.records.get t) ++ membershipBytes s t)

/-! ### Time Set and the Schedule Table (R149 to R152) -/

/-- Clock state, second and weekday as value bytes (R149, R152). -/
def clockBytes (b : Timebase) : List Byte :=
  u8 (match b.clock with
    | .unset => 0
    | .running => 1) ++ u24 b.second ++ u8 b.weekday.val

/-- A weekday operand 0 to 6. -/
def weekdayOf (b : Byte) : Option (Fin 7) := if h : b.toNat < 7 then some ⟨b.toNat, h⟩ else none

def reqTimeSet (second : Triple) (weekday : Byte) : RequestOp := fun s =>
  match weekdayOf weekday with
  | none => refused .badValue s
  | some d =>
    if 86399 < second.toNat then refused .badValue s
    else
      answered
        (s.setTimebase
          { s.timebase with clock := .running, second := second.toNat, weekday := d, subsecond := 0 })
        (clockBytes s.timebase)

/-- The entries with a new one put before the first entry of a later time (R150). -/
def insertByTime (e : ScheduleEntry) : List ScheduleEntry → List ScheduleEntry
  | [] => [e]
  | x :: xs => if e.time < x.time then e :: x :: xs else x :: insertByTime e xs

/-- The entry that the operands of Schedule Add spell, or none where one is out of range (R150). -/
def scheduleOperands (time : Triple) (weekdays pattern : Byte) : Option ScheduleEntry :=
  if 86399 < time.toNat ∨ weekdays = 0 ∨ weekdays.getLsbD 7 = true then none
  else (slotOf pattern.toNat).map fun p => { time := time.toNat, days := weekdays.setWidth 7, pattern := p }

def reqScheduleAdd (time : Triple) (weekdays pattern : Byte) : RequestOp := fun s =>
  match scheduleOperands time weekdays pattern with
  | none => refused .badValue s
  | some e =>
    let es := s.schedule.entries
    if es.any fun x => x.time == e.time then refused .duplicate s
    else if Config.scheduleDepth ≤ es.length then refused .tableFull s
    else
      let es' := insertByTime e es
      answered (s.setSchedule { s.schedule with entries := es' })
        (u8 ((es'.findIdx fun x => x.time == e.time) + 1) ++ u8 es'.length)

def reqScheduleDelete (time : Triple) : RequestOp := fun s =>
  if 86399 < time.toNat then refused .badValue s
  else if s.schedule.entries.any fun x => x.time == time.toNat then
    let es' := s.schedule.entries.filter fun x => x.time != time.toNat
    answered (s.setSchedule { s.schedule with entries := es' }) (u8 es'.length)
  else refused .notFound s

def reqScheduleClear : RequestOp := fun s =>
  answered (s.setSchedule { s.schedule with entries := [] }) (u8 s.schedule.entries.length)

def reqScheduleHold (value : Byte) : RequestOp := fun s =>
  match onOff value with
  | none => refused .badValue s
  | some b => answered (s.setSchedule { s.schedule with hold := b }) (flag s.schedule.hold)

def reqScheduleRead (item : Byte) : RequestOp := fun s =>
  if item = 0 then
    answered s (u8 s.schedule.entries.length ++ flag s.schedule.hold ++ clockBytes s.timebase)
  else
    match s.schedule.entries[item.toNat - 1]? with
    | some e => answered s (u24 e.time ++ u8 e.days.toNat ++ slotByte e.pattern)
    | none => refused .notFound s

/-! ### Contact Setup (R158) -/

/-- The sense that an operand names (R178). -/
def senseOf (b : Byte) : Option Sense := if b = 0 then some .activeHigh else if b = 1 then some .activeLow else none

/-- The action that the operands name; the pattern bytes an action does not use are ignored (R158, R178). -/
def actionOf (action p q : Byte) : Option Action :=
  if action = 0 then some .none
  else if action = 1 then (slotOf p.toNat).map Action.shiftOnActive
  else if action = 2 then (slotOf p.toNat).bind fun x => (slotOf q.toNat).map fun y => .shiftPair x y
  else if action = 3 then some .mute
  else none

/-- A line with a new configuration: its debounced level is taken from its present level under the new sense and its
debounce count is 0 (R158). -/
def ContactLine.configured (c : ContactLine) (sense : Sense) (action : Action) : ContactLine :=
  let c := { c with sense := sense, action := action, count := 0 }
  { c with active := c.present }

def reqContactSetup (line sense action p q : Byte) : RequestOp := fun s =>
  match lineOf line.toNat, senseOf sense, actionOf action p q with
  | some l, some x, some a =>
    let c := (s.line l).configured x a
    answered (muteChanged s.mute (s.setLine l c)) (u8 (levelNumber c.active))
  | _, _, _ => refused .badValue s

/-! ### Source Control (R137, R138) -/

/-- A port operand: 0 for A, 1 for B (R178). -/
def portOf (b : Byte) : Option Port := if b = 0 then some .A else if b = 1 then some .B else none

/-- A mode operand: 0 AUTO, 1 MANUAL (R178). -/
def modeOf (b : Byte) : Option ChangeoverMode := if b = 0 then some .auto else if b = 1 then some .manual else none

def OwnerCondition.number : OwnerCondition → Nat
  | .live => 0
  | .lost => 1

def ChangeoverMode.number : ChangeoverMode → Nat
  | .auto => 0
  | .manual => 1

/-- Owner, owner condition, mode and preferred port as value bytes (R137, R167). -/
def selectorBytes (x : Selector) : List Byte :=
  u8 (Port.number x.owner) ++ u8 x.condition.number ++ u8 x.mode.number ++ u8 (Port.number x.preferred)

/-- Every accepted Source Control returns the selector and both barred flags as they stand after it, port A's before
port B's (R137; DESIGN CHOICE, log entry 24). -/
def sourceAnswer (s : State) : State × Reply :=
  answered s (selectorBytes s.selector ++ flag s.portA.barred ++ flag s.portB.barred)

def reqSetPreferred (operand : Byte) : RequestOp := fun s =>
  match portOf operand with
  | none => refused .badValue s
  | some p => sourceAnswer (s.setSelector { s.selector with preferred := p })

def reqSetMode (operand : Byte) : RequestOp := fun s =>
  match modeOf operand with
  | none => refused .badValue s
  | some m => if m = s.selector.mode then sourceAnswer s else sourceAnswer (takeover (s.setSelector { s.selector with mode := m }))

def reqClearBar (operand : Byte) : RequestOp := fun s =>
  match portOf operand with
  | none => refused .badValue s
  | some p =>
    if (s.port p).barred then
      let s := s.setPort p { s.port p with barred := false }
      sourceAnswer (if p = s.selector.owner then s else takeover s)
    else sourceAnswer s

/-- Force owner; a port that is already the owner is accepted before the barred and presence tests, since R138 says
so even for a LOST owner, which is not present (DEDUCED, log entry 7). The next tick may still find the new owner at
HOLDOVER, and `ownerLost` then takes the loss (DEDUCED, log entry 27). -/
def reqForceOwner (operand : Byte) : RequestOp := fun s =>
  match portOf operand with
  | none => refused .badValue s
  | some p =>
    if p = s.selector.owner then sourceAnswer s
    else if (s.port p).barred || !(s.port p).present then refused .badState s
    else sourceAnswer (changeover p s)

/-! ### Notice Setup (R175) -/

/-- A source operand: the order numbers 1 to 13 (R175, R180). -/
def sourceOf (b : Byte) : Option (Fin 13) :=
  if h : 1 ≤ b.toNat ∧ b.toNat ≤ 13 then some ⟨b.toNat - 1, by omega⟩ else none

/-- A level operand: 0 ROUTINE, 1 URGENT (R178). -/
def levelOf (b : Byte) : Option Level := if b = 0 then some .routine else if b = 1 then some .urgent else none

/-- A source with a new enable and level; a disabled one loses its pending notice (R175). -/
def NoticeSource.configured (n : NoticeSource) (enabled : Bool) (level : Level) : NoticeSource :=
  if enabled then { n with enabled := true, level := level }
  else { enabled := false, level := level, pending := none, repeated := false }

def reqNoticeSetup (source enable level : Byte) : RequestOp := fun s =>
  match sourceOf source, onOff enable, levelOf level with
  | some i, some b, some l =>
    answered (s.setNoticeSource i ((s.noticeSource i).configured b l))
      (flag (s.noticeSource i).enabled ++ u8 (s.noticeSource i).level.number)
  | _, _, _ => refused .badValue s

end Sys2Proof.Machine
end

