-- ==== Sys2Proof/Machine/Setup.lean ====
section
/-! DEFINITION. Station Setup and Station Query, Status Query, Counter Clear and Unit Reset (chapter 10, and the rules
of the settings in the chapters that own them). -/

namespace Sys2Proof.Machine

/-! ### Station Setup (R165) -/

/-- The reply to an accepted Station Setup: the setting before and after (R165). -/
def setupReply (before after : Nat) : List Byte := u16 before ++ u16 after

/-- The value lies in a range. -/
def inRange (lo hi v : Nat) : Bool := decide (lo ≤ v ∧ v ≤ hi)

/-- Some OPEN or READY record has an entry for a tower above the new array size (R19). -/
def entryAbove (s : State) (size : Nat) : Bool :=
  allSlots.any fun p => (s.record p).entries.any fun e => decide (size ≤ e.tower.val)

/-- Some READY record has a power cap above the new ceiling (R20). -/
def capAbove (s : State) (ceiling : Nat) : Bool :=
  allSlots.any fun p =>
    match s.record p with
    | .ready h _ => decide (ceiling < h.cap)
    | _ => false

/-- Some network is MOVING (R52). -/
def anyMoving (s : State) : Bool := allTowers.any fun t => (s.net t).state.isMoving

/-- ARRAY_SIZE (R19, R51, R124, R165). -/
def reqArraySize (v : Nat) : RequestOp := fun s =>
  if s.atRest = false then refused .busy s
  else if inRange 2 12 v = false then refused .badValue s
  else if entryAbove s v then refused .inUse s
  else answered (resizeArray v s) (setupReply s.settings.arraySize v)

/-- FRAME_RATE: the buffer is flushed and the frame timer restarts at every accepted write (R142, R147). -/
def reqFrameRate (v : Nat) : RequestOp := fun s =>
  if inRange 8000 64000 v = false then refused .badValue s
  else
    answered
      ((flushBuffer (s.setSettings { s.settings with frameRate := v })).setTimebase { s.timebase with frameTimer := 0 })
      (setupReply s.settings.frameRate v)

/-- STEP_PERIOD: the reload value alone while a ramp runs, the counter too while none does (R65). A write of the value in
force does so too, so that a counter stopped below it rises to it (DESIGN CHOICE, log entry 25). -/
def reqStepPeriod (v : Nat) : RequestOp := fun s =>
  if inRange 1 16 v = false then refused .badValue s
  else
    let s' := s.setSettings { s.settings with stepPeriod := v }
    answered (if s.rampRunning then s' else s'.setTimer { s.shift.timer with counter := v })
      (setupReply s.settings.stepPeriod v)

/-- DROP_LENGTH (R80). -/
def reqDropLength (v : Nat) : RequestOp := fun s =>
  if s.shifting then refused .busy s
  else if inRange 1 1000 v = false then refused .badValue s
  else answered (s.setSettings { s.settings with dropLength := v }) (setupReply s.settings.dropLength v)

/-- CEILING (R20). -/
def reqCeiling (v : Nat) : RequestOp := fun s =>
  if s.shifting then refused .busy s
  else if inRange 0 65535 v = false then refused .badValue s
  else if capAbove s v then refused .inUse s
  else answered (s.setSettings { s.settings with ceiling := v }) (setupReply s.settings.ceiling v)

/-- TRAVEL_WARN (R52). -/
def reqTravelWarn (v : Nat) : RequestOp := fun s =>
  if inRange 10 2000 v = false then refused .badValue s
  else if s.settings.travelLimit ≤ v then refused .badValue s
  else answered (s.setSettings { s.settings with travelWarn := v }) (setupReply s.settings.travelWarn v)

/-- TRAVEL_LIMIT (R52). -/
def reqTravelLimit (v : Nat) : RequestOp := fun s =>
  if anyMoving s then refused .busy s
  else if inRange 20 5000 v = false then refused .badValue s
  else if v ≤ s.settings.travelWarn then refused .badValue s
  else answered (s.setSettings { s.settings with travelLimit := v }) (setupReply s.settings.travelLimit v)

/-- SILENCE_TIME (R122, R128). -/
def reqSilenceTime (v : Nat) : RequestOp := fun s =>
  if inRange 2 255 v = false then refused .badValue s
  else answered (s.setSettings { s.settings with silenceTime := v }) (setupReply s.settings.silenceTime v)

/-- MON_WINDOW: a changed value restarts the window in STEADY or in VERIFY (R88, R99). -/
def reqMonWindow (v : Nat) : RequestOp := fun s =>
  if v ∉ [1, 2, 4, 8, 16, 32, 64] then refused .badValue s
  else
    let s' := s.setSettings { s.settings with monWindow := v }
    answered (if v = s.settings.monWindow then s' else restartWindow s') (setupReply s.settings.monWindow v)

/-- WINDOW_LIMIT, copied by the windows that begin after the write (R87, R99). -/
def reqWindowLimit (v : Nat) : RequestOp := fun s =>
  if inRange 100 10000 v = false then refused .badValue s
  else answered (s.setSettings { s.settings with windowLimit := v }) (setupReply s.settings.windowLimit v)

/-- VERIFY_TRIES (R80). -/
def reqVerifyTries (v : Nat) : RequestOp := fun s =>
  if s.shifting then refused .busy s
  else if inRange 1 4 v = false then refused .badValue s
  else answered (s.setSettings { s.settings with verifyTries := v }) (setupReply s.settings.verifyTries v)

/-- FAIL_LIMIT: every accepted write clears every out flag (R96). -/
def reqFailLimit (v : Nat) : RequestOp := fun s =>
  if inRange 1 15 v = false then refused .badValue s
  else
    answered
      ((s.setSettings { s.settings with failLimit := v }).setMonRecords
        (tab fun t => { s.monitor.records.get t with out := false }))
      (setupReply s.settings.failLimit v)

/-- HOLDOVER (R131). -/
def reqHoldover (v : Nat) : RequestOp := fun s =>
  if inRange 5 500 v = false then refused .badValue s
  else answered (s.setSettings { s.settings with holdover := v }) (setupReply s.settings.holdover v)

/-- DEBOUNCE; the debounce counts are not reset (R156). -/
def reqDebounce (v : Nat) : RequestOp := fun s =>
  if inRange 0 255 v = false then refused .badValue s
  else answered (s.setSettings { s.settings with debounce := v }) (setupReply s.settings.debounce v)

/-- Station Setup by the setting's number, 1 to 14 in the order of R165's table; any other setting is refused BAD_VALUE
(R165, R178). -/
def reqStationSetup (setting v : Nat) : RequestOp :=
  match setting with
  | 1 => reqArraySize v
  | 2 => reqFrameRate v
  | 3 => reqStepPeriod v
  | 4 => reqDropLength v
  | 5 => reqCeiling v
  | 6 => reqTravelWarn v
  | 7 => reqTravelLimit v
  | 8 => reqSilenceTime v
  | 9 => reqMonWindow v
  | 10 => reqWindowLimit v
  | 11 => reqVerifyTries v
  | 12 => reqFailLimit v
  | 13 => reqHoldover v
  | 14 => reqDebounce v
  | _ => refused .badValue

/-! ### Station Query (R166) -/

/-- The fourteen settings in the order of R165's table. -/
def Settings.values (x : Settings) : List Nat :=
  [x.arraySize, x.frameRate, x.stepPeriod, x.dropLength, x.ceiling, x.travelWarn, x.travelLimit, x.silenceTime,
    x.monWindow, x.windowLimit, x.verifyTries, x.failLimit, x.holdover, x.debounce]

def reqStationQuery (setting : Byte) : RequestOp := fun s =>
  if setting = 255 then answered s (s.settings.values.map u16).flatten
  else if setting = 0 then refused .badValue s
  else
    match s.settings.values[setting.toNat - 1]? with
    | some v => answered s (u16 v)
    | none => refused .badValue s

/-! ### Status Query (R167) -/

/-- The transition context without its start vector, every field none outside SHIFTING (R55, R81). -/
def contextBytes : ArrayState → List Byte
  | .shifting c =>
    orNone 1 slotByte c.source ++ u8 c.prior.number ++ orNone 1 slotByte c.target ++ u8 c.cause.number
      ++ orNone 4 originBytes c.origin ++ u8 c.phase.number ++ towerSet c.switchSet ++ u16 c.stepCount
      ++ orNone 2 u16 c.stepTotal ++ u16 c.switchWait ++ u8 c.verifyUsed
  | _ => List.replicate 18 255

/-- The last failure record as value bytes (R108). -/
def failureBytes (f : LastFailure) : List Byte :=
  u8 f.kind.number ++ orNone 1 slotByte f.pattern ++ orNone 1 (fun r : Reason => u8 r.number) f.reason
    ++ orNone 1 towerByte f.tower ++ orNone 1 (fun c : OrderCause => u8 c.number) f.cause ++ orNone 1 flag f.flag
    ++ u8 f.links ++ orNone 1 (fun o : FailureOutcome => u8 o.number) f.outcome ++ orNone 1 slotByte f.fallback
    ++ orNone 1 (fun r : Reason => u8 r.number) f.dropReason

/-- Group array (R167). -/
def arrayGroup (s : State) : List Byte :=
  u8 s.shift.array.number
    ++ (match s.shift.array with
      | .steady p => slotByte p
      | _ => [255])
    ++ contextBytes s.shift.array ++ u8 s.shift.queue.length ++ (s.shift.queue.map orderBytes).flatten
    ++ flag s.shift.fallbackFlag ++ failureBytes s.shift.lastFailure

/-- Group patterns: state, use marks, number of entries and raw power of each slot (R167). -/
def patternGroup (s : State) : List Byte :=
  (allSlots.map fun p =>
    u8 (s.record p).number ++ markSet s p ++ u8 (s.record p).entries.length
      ++ orNone 5 (fun _ : Header => u40 (rawPower (s.record p).entries)) (s.record p).header).flatten

/-- Group monitor: duty, window state, pattern concerned, window timer, W and window limit (R100, R167). -/
def monitorGroup (s : State) : List Byte :=
  u8 s.monitor.duty.number
    ++ (match s.monitor.window with
      | some w => u8 1 ++ slotByte w.pattern ++ u16 w.timer ++ u16 w.reports ++ u16 w.limit
      | none => u8 0 ++ List.replicate 7 255)

/-- The items of one port (R145, R167). -/
def portBytes (p : PortState) : List Byte :=
  flag p.present ++ u16 p.age ++ flag p.barred ++ u16 p.frameErrors ++ u16 p.discarded ++ u16 p.overruns

/-- The items of the Sample Buffer (R145, R167). -/
def bufferBytes (b : Buffer) : List Byte :=
  u8 (match b.state with
    | .priming => 0
    | .running => 1) ++ u8 b.fifo.length ++ pair b.held ++ u16 b.underruns ++ u16 b.overruns

/-- The patterns an action uses, 255 for one it does not use (R167; DESIGN CHOICE, log entry 17). -/
def Action.patterns : Action → List Byte
  | .shiftOnActive p => slotByte p ++ [255]
  | .shiftPair p q => slotByte p ++ slotByte q
  | _ => [255, 255]

/-- The items of one contact line (R159, R167). -/
def lineBytes (c : ContactLine) : List Byte :=
  u8 c.sense.number ++ u8 c.action.number ++ c.action.patterns ++ u8 (levelNumber c.present) ++ u8 (levelNumber c.active)

/-- The items of one notice source (R167, R172). -/
def noticeBytes (n : NoticeSource) : List Byte :=
  flag n.enabled ++ u8 n.level.number ++ flag n.pending.isSome ++ flag n.repeated

/-- The view of the whole part that Status Query returns, in the order of R167's table. Port A's values come before port
B's, and the mute state is 1 for active and 0 for inactive (DESIGN CHOICE, log entries 24 and 26). -/
def statusValues (s : State) : List Byte :=
  arrayGroup s ++ patternGroup s ++ u40 s.livePower ++ flag s.mute ++ monitorGroup s ++ u16 s.link.returnErrors
    ++ selectorBytes s.selector ++ portBytes s.portA ++ portBytes s.portB ++ bufferBytes s.buffer
    ++ clockBytes s.timebase ++ flag s.schedule.hold ++ (allLines.map fun l => lineBytes (s.line l)).flatten
    ++ (allSources.map fun i => noticeBytes (s.noticeSource i)).flatten

def reqStatusQuery : RequestOp := fun s => answered s (statusValues s)

/-! ### Counter Clear (R168) -/

def PortState.cleared (p : PortState) : PortState := { p with frameErrors := 0, discarded := 0, overruns := 0 }

/-- Every counter of the part becomes 0 (R168). -/
def clearCounters (s : State) : State :=
  { s with
    engine := { s.engine with saturation := Vector.replicate 12 0 }
    link := { s.link with returnErrors := 0 }
    portA := s.portA.cleared
    portB := s.portB.cleared
    buffer := { s.buffer with underruns := 0, overruns := 0 }
    monitor := { s.monitor with records := tab fun t => { s.monitor.records.get t with windows := 0 } } }

def reqCounterClear : RequestOp := fun s => answered (clearCounters s) []

/-! ### Unit Reset (R169) -/

/-- A source port under Unit Reset: bar and counters cleared, assembly IDLE, slot EMPTY; age and present flag kept
(R143, R144, R169). -/
def PortState.unitReset (p : PortState) : PortState := { p.cleared with barred := false, assembly := .idle, slot := none }

/-- A Tower Table entry under Unit Reset: its lockout kept, its silence timer restarted within ARRAY_SIZE (R129). -/
def TowerEntry.unitReset (e : TowerEntry) (inArray : Bool) : TowerEntry := e.cleared inArray

/-- A notice source under Unit Reset: pending flag, payload and repeat bit cleared, enable and level kept (R172). -/
def NoticeSource.unitReset (n : NoticeSource) : NoticeSource := { n with pending := none, repeated := false }

/-- Unit Reset clears the running state and keeps the configuration (R169). -/
def unitReset (s : State) : State :=
  let towers := tab fun t : Tower => (s.tower t).unitReset (s.inArray t)
  { s with
    engine := { live := Vector.replicate 12 Cpx.zero, saturation := Vector.replicate 12 0 }
    nets := Vector.replicate 12 .initial
    shift :=
      { array := .noPattern, queue := [], timer := { counter := s.settings.stepPeriod, running := false },
        fallbackFlag := false, lastFailure := .clear }
    monitor := { duty := .none, window := none, records := Vector.replicate 12 .initial }
    link := { s.link with towers := towers, returnErrors := 0 }
    portA := s.portA.unitReset
    portB := s.portB.unitReset
    selector := { s.selector with owner := s.selector.preferred, condition := .live }
    buffer := { s.buffer.flush with underruns := 0, overruns := 0 }
    notices := tab fun i => (s.noticeSource i).unitReset }

def reqUnitReset : RequestOp := fun s => answered (unitReset s) []

/-! ### The request codes (R178) -/

/-- The frame count and the effect of a known request code, its operands read from the payload (R163, R178, R179). -/
def requestOf (port : Port) (code : Byte) (pl : List Byte) : Option (Nat × RequestOp) :=
  let b := byteAt pl
  let h : Nat → Half := fun k => BitVec.ofNat 16 (wordAt pl k)
  let t : Triple := BitVec.ofNat 24 ((b 0).toNat * 65536 + wordAt pl 1)
  match code.toNat with
  | 1 => some (1, reqStationSetup (b 0).toNat (wordAt pl 1))
  | 2 => some (1, reqStationQuery (b 0))
  | 3 => some (1, reqStatusQuery)
  | 4 => some (1, reqCounterClear)
  | 5 => some (1, reqUnitReset)
  | 6 => some (1, reqNoticeSetup (b 0) (b 1) (b 2))
  | 7 => some (1, reqPatternOpen (b 0))
  | 8 => some (3, reqPatternHeader (b 0) (b 1) (b 2) (h 3) (h 5) (h 7) (b 9) (b 10))
  | 9 => some (3, reqTowerEntry (b 0) (b 1) (h 2) (h 4) (b 6) (h 7) (h 9) (b 11))
  | 10 => some (1, reqTowerEntryRemove (b 0) (b 1))
  | 11 => some (1, reqPatternClose (b 0))
  | 12 => some (1, reqPatternErase (b 0))
  | 13 => some (1, reqPatternRead (b 0) (b 1))
  | 14 => some (2, reqWeightTrim (b 0) (b 1) (h 2) (h 4))
  | 15 => some (1, reqShift port (b 0))
  | 16 => some (1, reqShiftCancel)
  | 17 => some (1, reqAbort port)
  | 18 => some (1, reqTowerLockout (b 0) (b 1))
  | 19 => some (1, reqTowerRestore (b 0))
  | 20 => some (1, reqTowerStatus (b 0))
  | 21 => some (2, reqTimeSet t (b 3))
  | 22 => some (2, reqScheduleAdd t (b 3) (b 4))
  | 23 => some (1, reqScheduleDelete t)
  | 24 => some (1, reqScheduleClear)
  | 25 => some (1, reqScheduleHold (b 0))
  | 26 => some (1, reqScheduleRead (b 0))
  | 27 => some (2, reqContactSetup (b 0) (b 1) (b 2) (b 3) (b 4))
  | 28 =>
    match (b 0).toNat with
    | 1 => some (1, reqSetPreferred (b 1))
    | 2 => some (1, reqSetMode (b 1))
    | 3 => some (1, reqClearBar (b 1))
    | 4 => some (1, reqForceOwner (b 1))
    | _ => some (1, refused .badValue)
  | _ => none

end Sys2Proof.Machine
end

