-- ==== Sys2Proof/Machine/Frames.lean ====
section
/-! DEFINITION. The frames of the links: the drive computation and the Drive Frame of a frame timer expiry, the Return
Frames with the notice selection, the receipt of source frames, and a request taken whole (chapters 2, 7, 8 and 10). -/

namespace Sys2Proof.Machine

/-! ### The drive computation (R29 to R32) -/

/-- Divided by 16384 and rounded to the nearest integer, ties away from zero (R30). -/
def roundDrive (n : Int) : Int := n.sign * (((2 * n.natAbs + 16384) / 32768 : Nat) : Int)

/-- The exact products of the sample (I, Q) and the weight (a, b) (R30). -/
def driveProduct (x w : Cpx) : Cpx := ⟨x.re * w.re - x.im * w.im, x.re * w.im + x.im * w.re⟩

/-- The drive value before the clamp (R30). -/
def driveRounded (x w : Cpx) : Cpx := ⟨roundDrive (driveProduct x w).re, roundDrive (driveProduct x w).im⟩

/-- The drive value (R30, R31). -/
def driveValue (x w : Cpx) : Cpx := ⟨clampWeight (driveRounded x w).re, clampWeight (driveRounded x w).im⟩

/-- A component of the slot is clamped (R31). -/
def driveClamped (x w : Cpx) : Bool := driveValue x w != driveRounded x w

/-- A slot that passes the gate and clamps in the frame of a sample (R31, R32). -/
def State.clamps (s : State) (x : Cpx) (t : Tower) : Bool := !s.gated t && driveClamped x (s.live t)

/-- The move part of a slot: the destination of a MOVING record of the array (R43, R115). -/
def State.moveField (s : State) (t : Tower) : Option Pos :=
  match (s.net t).state with
  | .moving q _ => if s.inArray t then some q else none
  | _ => none

/-- One tower slot of the frame of a sample (R32, R115). -/
def driveSlot (s : State) (x : Cpx) (t : Tower) : DriveSlot :=
  { valid := !s.gated t, move := s.moveField t, drive := if s.gated t then Cpx.zero else driveValue x (s.live t) }

/-- The towers whose slots clamp in the frame of a sample, ascending (R31). -/
def clampedTowers (s : State) (x : Cpx) : List Tower := allTowers.filter fun t => s.clamps x t

/-- The Drive Frame of one expiry is computed from the held sample and emitted: the saturation counters rise, and the
SATURATION notice is raised once where some slot clamps (R29, R31, R115). -/
def emitDrive (s : State) : State :=
  let x := s.buffer.held
  let counted :=
    { s with
      engine := { s.engine with
        saturation := tab fun t => if s.clamps x t then bump (s.engine.saturation.get t) else s.engine.saturation.get t }
      link := { s.link with driveFrame := driveFrameBytes (driveSlot s x) } }
  match clampedTowers s x with
  | t :: ts => raise (.saturation t (ts.length + 1)) counted
  | [] => counted

/-! ### The Return Frames (R170, R171, R174) -/

/-- The first ready source of a level, in the order of selection (R174). -/
def firstReady (s : State) (l : Level) : Option (Fin 13) :=
  allSources.find? fun i => (s.noticeSource i).ready && (s.noticeSource i).level == l

/-- The source that the Notice Selector chooses: URGENT before ROUTINE (R174). -/
def chosenSource (s : State) : Option (Fin 13) := (firstReady s .urgent).or (firstReady s .routine)

/-- The reply slot after one more reply frame: EMPTY where that was the last one (R163, R170). -/
def ReplySlot.next (r : ReplySlot) : Option ReplySlot :=
  if replyFrames r.reply ≤ r.sent + 1 then none else some { r with sent := r.sent + 1 }

/-- The content of one port's Return Frame, and the state once it is taken (R170, R174). -/
def portContent (p : Port) (s : State) : State × Content :=
  match (s.port p).slot with
  | some r => (s.setPort p { s.port p with slot := r.next }, .reply (replyBody r r.sent))
  | none =>
    if p = s.selector.owner then
      match chosenSource s with
      | some i =>
        match (s.noticeSource i).pending with
        | some n =>
          (s.setNoticeSource i { s.noticeSource i with pending := none, repeated := false },
            .notice (noticeBody n (s.noticeSource i).repeated))
        | none => (s, .nothing)
      | none => (s, .nothing)
    else (s, .nothing)

/-- The Return Frame that a port has sent is kept. -/
def storeReturn (p : Port) (bs : List Byte) (s : State) : State := s.setPort p { s.port p with returnFrame := bs }

/-- Both ports send their Return Frames; the summary is the same on both, with the notice-pending field as the
selection leaves it (R170, R171; log entry 8). -/
def sendReturns (s : State) : State :=
  match portContent .A s with
  | (sA, a) =>
    match portContent .B sA with
    | (sB, b) =>
      storeReturn .B (returnFrameBytes sB.statusByte1 sB.statusByte2 b)
        (storeReturn .A (returnFrameBytes sB.statusByte1 sB.statusByte2 a) sB)

/-- The frame timer counts one more expiry of the second (R147; log entry 5). -/
def countExpiry (s : State) : State :=
  s.setTimebase { s.timebase with frameTimer := (s.timebase.frameTimer + 1) % s.settings.frameRate }

/-- One expiry of the frame timer: a sample is taken, the Drive Frame emitted, and the Return Frames sent (R147). -/
def frameExpiry (s : State) : State := countExpiry (sendReturns (emitDrive (s.setBuffer s.buffer.take)))

/-! ### Source frames (R130, R161 to R163) -/

/-- A completed request of a code, a frame count and a payload: R163's steps in order. -/
def completeRequest (p : Port) (code tag : Byte) (count : Nat) (payload : List Byte) (s : State) : State :=
  match requestOf p code payload with
  | none => badRequest p code tag s
  | some (frames, op) => if count = frames then takeRequest p code tag op s else badRequest p code tag s

/-- A first Request Frame (R161). -/
def firstFrame (p : Port) (count : Nat) (code tag : Byte) (payload : List Byte) (s : State) : State :=
  let s := abandonRequest p s
  if count = 0 ∨ count = 7 then badRequest p code tag s
  else if count = 1 then completeRequest p code tag 1 payload s
  else setAssembly p (.assembling code tag count 1 payload) s

/-- A continuation frame (R161). -/
def nextFrame (p : Port) (payload : List Byte) (s : State) : State :=
  match (s.port p).assembly with
  | .idle => s
  | .assembling code tag count taken got =>
    if taken + 1 = count then completeRequest p code tag count (got ++ payload) (setAssembly p .idle s)
    else setAssembly p (.assembling code tag count (taken + 1) (got ++ payload)) s

/-- A source frame arrives as bytes on a port; the bytes decide what it is (R130, R161, R162). -/
def sourceFrame (p : Port) (bytes : List Byte) (s : State) : State :=
  match decodeSourceFrame bytes with
  | none => discardFrame p s
  | some (.sample x claim) => sampleTaken p x claim (abandonRequest p s)
  | some .idle => abandonRequest p s
  | some (.requestFirst count code tag payload) => firstFrame p count code tag payload s
  | some (.requestNext payload) => nextFrame p payload s

/-- A request arrives whole: its run of Request Frames, unbroken, at one port. A request in assembly there is abandoned
by the first of them (R161, R162), and the last completes it (R163; log entry 9). -/
def requestArrives (p : Port) (code tag : Byte) (op : RequestOp) (s : State) : State :=
  takeRequest p code tag op (abandonRequest p s)

end Sys2Proof.Machine
end

