-- ==== Sys2Proof/Machine/Events.lean ====
section
/-! DEFINITION. The commands of the reset pin, the reference clock and the events of a tick. -/

namespace Sys2Proof.Machine

/-- POWER_ON_RESET: every block returns to its power-on values; the commands that wait are the sender's and stay (R147). -/
def execPowerOnReset (levels : BitVec 4) (s : State) : Host.Outcome State Fault Refusal :=
  .next { State.powerOn levels with pending := s.pending }

/-- MILLISECOND_TICK: every millisecond counter advances by its own block's rule (R146). -/
def execMillisecondTick (levels : TickLevels) (s : State) : Host.Outcome State Fault Refusal :=
  .next (tick levels.sampled levels.behind (settle s))

/-- FRAME_TIMER_EXPIRY: a sample is taken, one Drive Frame and two Return Frames are sent (R147). -/
def execFrameTimerExpiry (s : State) : Host.Outcome State Fault Refusal :=
  .next (frameExpiry (settle s))

/-- STEP_TIMER_EXPIRY: one step of the running ramp (R64). -/
def execStepTimerExpiry (s : State) : Host.Outcome State Fault Refusal :=
  .next (takeDue .stepTimer s)

/-- SWITCH_WAIT_TIMEOUT: the towers that cannot be satisfied are taken as failed moves (R69). -/
def execSwitchWaitTimeout (s : State) : Host.Outcome State Fault Refusal :=
  .next (takeDue .switchWait s)

/-- WINDOW_LIMIT_REACHED: the window completes (R87). -/
def execWindowLimitReached (s : State) : Host.Outcome State Fault Refusal :=
  .next (takeDue .windowLimit s)

/-- OWNER_LOSS: the owner becomes LOST (R136). -/
def execOwnerLoss (s : State) : Host.Outcome State Fault Refusal :=
  .next (takeDue .ownerLoss s)

/-- SECOND_ADVANCE: the second advances, and an entry at it fires (R148, R153). -/
def execSecondAdvance (s : State) : Host.Outcome State Fault Refusal :=
  .next (takeDue .second s)

/-- TRAVEL_LIMIT_REACHED: the network becomes JAMMED (R47); a number that names no tower names no event. -/
def execTravelLimitReached (tower : Nat) (s : State) : Host.Outcome State Fault Refusal :=
  match towerOf tower with
  | some t => .next (takeDue (.travel t) s)
  | none => .next s

/-- SILENCE_TIME_REACHED: the tower becomes not present and SILENT is added (R122). -/
def execSilenceTimeReached (tower : Nat) (s : State) : Host.Outcome State Fault Refusal :=
  match towerOf tower with
  | some t => .next (takeDue (.silence t) s)
  | none => .next s

/-- HOLDOVER_EXPIRY: the port becomes not present (R131). -/
def execHoldoverExpiry (port : Port) (s : State) : Host.Outcome State Fault Refusal :=
  .next (takeDue (.holdover port) s)

/-- CONTACT_DEBOUNCED_CHANGE: the debounced level takes the sampled level, and the action of the line follows (R156, R157). -/
def execContactDebouncedChange (line : Nat) (s : State) : Host.Outcome State Fault Refusal :=
  match lineOf line with
  | some l => .next (takeDue (.contact l) s)
  | none => .next s

end Sys2Proof.Machine
end

