-- ==== Sys2Proof/Machine/LinkFrames.lean ====
section
/-! DEFINITION. The commands of the frames that arrive on the links. -/

namespace Sys2Proof.Machine

/-- SAMPLE_FRAME: presence, the Source Selector and the Sample Buffer take the sample (R131, R135, R140). -/
def execSampleFrame (port : Port) (bytes : List Byte) (s : State) : Host.Outcome State Fault Refusal :=
  .next (sourceFrame port bytes (settle s))

/-- REQUEST_FRAME: the request assembly takes the frame (R161 to R163). -/
def execRequestFrame (port : Port) (bytes : List Byte) (s : State) : Host.Outcome State Fault Refusal :=
  .next (sourceFrame port bytes (settle s))

/-- IDLE_FRAME: it abandons a request in assembly (R162) and changes nothing else (R130). -/
def execIdleFrame (port : Port) (bytes : List Byte) (s : State) : Host.Outcome State Fault Refusal :=
  .next (sourceFrame port bytes (settle s))

/-- DISCARDED_SOURCE_FRAME: the frame error counter rises (R130). -/
def execDiscardedSourceFrame (port : Port) (bytes : List Byte) (s : State) : Host.Outcome State Fault Refusal :=
  .next (sourceFrame port bytes (settle s))

/-- TOWER_RETURN_FRAME: twelve return slots, or one return frame error (R117). -/
def execTowerReturnFrame (bytes : List Byte) (s : State) : Host.Outcome State Fault Refusal :=
  .next (towerReturn bytes (settle s))

end Sys2Proof.Machine
end

