-- ==== Sys2Proof/Machine/PatternTable.lean ====
section
/-! DEFINITION. The commands of the Pattern Table. -/

namespace Sys2Proof.Machine

/-- PATTERN_OPEN (R7). -/
def execPatternOpen (port : Port) (tag : Byte) (pattern : Byte) (s : State) : Host.Outcome State Fault Refusal :=
  .next (requestArrives port 7 tag (reqPatternOpen pattern) (settle s))

/-- PATTERN_HEADER (R8). -/
def execPatternHeader (port : Port) (tag : Byte) (pattern reference park : Byte) (cap ramp trimLimit : Half)
    (fallback option : Byte) (s : State) : Host.Outcome State Fault Refusal :=
  .next (requestArrives port 8 tag (reqPatternHeader pattern reference park cap ramp trimLimit fallback option) (settle s))

/-- TOWER_ENTRY (R9). -/
def execTowerEntry (port : Port) (tag : Byte) (pattern tower : Byte) (weightRe weightIm : Half) (position : Byte)
    (expectedRe expectedIm : Half) (tolerance : Byte) (s : State) : Host.Outcome State Fault Refusal :=
  .next (requestArrives port 9 tag (reqTowerEntry pattern tower weightRe weightIm position expectedRe expectedIm tolerance) (settle s))

/-- TOWER_ENTRY_REMOVE (R10). -/
def execTowerEntryRemove (port : Port) (tag : Byte) (pattern tower : Byte) (s : State) :
    Host.Outcome State Fault Refusal :=
  .next (requestArrives port 10 tag (reqTowerEntryRemove pattern tower) (settle s))

/-- PATTERN_CLOSE (R11). -/
def execPatternClose (port : Port) (tag : Byte) (pattern : Byte) (s : State) : Host.Outcome State Fault Refusal :=
  .next (requestArrives port 11 tag (reqPatternClose pattern) (settle s))

/-- PATTERN_ERASE (R13). -/
def execPatternErase (port : Port) (tag : Byte) (pattern : Byte) (s : State) : Host.Outcome State Fault Refusal :=
  .next (requestArrives port 12 tag (reqPatternErase pattern) (settle s))

/-- PATTERN_READ (R14). -/
def execPatternRead (port : Port) (tag : Byte) (pattern item : Byte) (s : State) : Host.Outcome State Fault Refusal :=
  .next (requestArrives port 13 tag (reqPatternRead pattern item) (settle s))

/-- WEIGHT_TRIM (R15, R16). -/
def execWeightTrim (port : Port) (tag : Byte) (pattern tower : Byte) (deltaRe deltaIm : Half) (s : State) :
    Host.Outcome State Fault Refusal :=
  .next (requestArrives port 14 tag (reqWeightTrim pattern tower deltaRe deltaIm) (settle s))

end Sys2Proof.Machine
end

