-- ==== Sys2Proof/Machine/Settings.lean ====
section
/-! DEFINITION. The fourteen Station Setup commands. -/

namespace Sys2Proof.Machine

/-- STATION_SETUP_ARRAY_SIZE: setting 1 of Station Setup (R165; R19, R51, R124). -/
def execStationSetupArraySize (port : Port) (tag : Byte) (value : Half) (s : State) :
    Host.Outcome State Fault Refusal :=
  .next (requestArrives port 1 tag (reqArraySize value.toNat) (settle s))

/-- STATION_SETUP_FRAME_RATE: setting 2 of Station Setup (R165; R147). -/
def execStationSetupFrameRate (port : Port) (tag : Byte) (value : Half) (s : State) :
    Host.Outcome State Fault Refusal :=
  .next (requestArrives port 1 tag (reqFrameRate value.toNat) (settle s))

/-- STATION_SETUP_STEP_PERIOD: setting 3 of Station Setup (R165; R65). -/
def execStationSetupStepPeriod (port : Port) (tag : Byte) (value : Half) (s : State) :
    Host.Outcome State Fault Refusal :=
  .next (requestArrives port 1 tag (reqStepPeriod value.toNat) (settle s))

/-- STATION_SETUP_DROP_LENGTH: setting 4 of Station Setup (R165; R80). -/
def execStationSetupDropLength (port : Port) (tag : Byte) (value : Half) (s : State) :
    Host.Outcome State Fault Refusal :=
  .next (requestArrives port 1 tag (reqDropLength value.toNat) (settle s))

/-- STATION_SETUP_CEILING: setting 5 of Station Setup (R165; R20). -/
def execStationSetupCeiling (port : Port) (tag : Byte) (value : Half) (s : State) :
    Host.Outcome State Fault Refusal :=
  .next (requestArrives port 1 tag (reqCeiling value.toNat) (settle s))

/-- STATION_SETUP_TRAVEL_WARN: setting 6 of Station Setup (R165; R52). -/
def execStationSetupTravelWarn (port : Port) (tag : Byte) (value : Half) (s : State) :
    Host.Outcome State Fault Refusal :=
  .next (requestArrives port 1 tag (reqTravelWarn value.toNat) (settle s))

/-- STATION_SETUP_TRAVEL_LIMIT: setting 7 of Station Setup (R165; R52). -/
def execStationSetupTravelLimit (port : Port) (tag : Byte) (value : Half) (s : State) :
    Host.Outcome State Fault Refusal :=
  .next (requestArrives port 1 tag (reqTravelLimit value.toNat) (settle s))

/-- STATION_SETUP_SILENCE_TIME: setting 8 of Station Setup (R165; R122, R128). -/
def execStationSetupSilenceTime (port : Port) (tag : Byte) (value : Half) (s : State) :
    Host.Outcome State Fault Refusal :=
  .next (requestArrives port 1 tag (reqSilenceTime value.toNat) (settle s))

/-- STATION_SETUP_MON_WINDOW: setting 9 of Station Setup (R165; R88, R99). -/
def execStationSetupMonWindow (port : Port) (tag : Byte) (value : Half) (s : State) :
    Host.Outcome State Fault Refusal :=
  .next (requestArrives port 1 tag (reqMonWindow value.toNat) (settle s))

/-- STATION_SETUP_WINDOW_LIMIT: setting 10 of Station Setup (R165; R87, R99). -/
def execStationSetupWindowLimit (port : Port) (tag : Byte) (value : Half) (s : State) :
    Host.Outcome State Fault Refusal :=
  .next (requestArrives port 1 tag (reqWindowLimit value.toNat) (settle s))

/-- STATION_SETUP_VERIFY_TRIES: setting 11 of Station Setup (R165; R72, R80). -/
def execStationSetupVerifyTries (port : Port) (tag : Byte) (value : Half) (s : State) :
    Host.Outcome State Fault Refusal :=
  .next (requestArrives port 1 tag (reqVerifyTries value.toNat) (settle s))

/-- STATION_SETUP_FAIL_LIMIT: setting 12 of Station Setup (R165; R96, R99). -/
def execStationSetupFailLimit (port : Port) (tag : Byte) (value : Half) (s : State) :
    Host.Outcome State Fault Refusal :=
  .next (requestArrives port 1 tag (reqFailLimit value.toNat) (settle s))

/-- STATION_SETUP_HOLDOVER: setting 13 of Station Setup (R165; R131). -/
def execStationSetupHoldover (port : Port) (tag : Byte) (value : Half) (s : State) :
    Host.Outcome State Fault Refusal :=
  .next (requestArrives port 1 tag (reqHoldover value.toNat) (settle s))

/-- STATION_SETUP_DEBOUNCE: setting 14 of Station Setup (R165; R156). -/
def execStationSetupDebounce (port : Port) (tag : Byte) (value : Half) (s : State) :
    Host.Outcome State Fault Refusal :=
  .next (requestArrives port 1 tag (reqDebounce value.toNat) (settle s))

end Sys2Proof.Machine
end

