-- ==== Sys2Proof/Machine/ShiftOrders.lean ====
section
/-! DEFINITION. The commands of the Shift Controller. -/

namespace Sys2Proof.Machine

/-- SHIFT (R58). -/
def execShift (port : Port) (tag : Byte) (pattern : Byte) (s : State) : Host.Outcome State Fault Refusal :=
  .next (requestArrives port 15 tag (reqShift port pattern) (settle s))

/-- SHIFT_CANCEL (R60). -/
def execShiftCancel (port : Port) (tag : Byte) (s : State) : Host.Outcome State Fault Refusal :=
  .next (requestArrives port 16 tag (reqShiftCancel) (settle s))

/-- ABORT (R76). -/
def execAbort (port : Port) (tag : Byte) (s : State) : Host.Outcome State Fault Refusal :=
  .next (requestArrives port 17 tag (reqAbort port) (settle s))

end Sys2Proof.Machine
end

