-- ==== Sys2Proof/Machine/SourceControl.lean ====
section
/-! DEFINITION. The commands of Source Control. -/

namespace Sys2Proof.Machine

/-- SET_PREFERRED_PORT: sub-function 1 of Source Control (R137). -/
def execSetPreferredPort (port : Port) (tag : Byte) (operand : Byte) (s : State) : Host.Outcome State Fault Refusal :=
  .next (requestArrives port 28 tag (reqSetPreferred operand) (settle s))

/-- SET_CHANGEOVER_MODE: sub-function 2 of Source Control (R137). -/
def execSetChangeoverMode (port : Port) (tag : Byte) (operand : Byte) (s : State) :
    Host.Outcome State Fault Refusal :=
  .next (requestArrives port 28 tag (reqSetMode operand) (settle s))

/-- CLEAR_BAR: sub-function 3 of Source Control (R137). -/
def execClearBar (port : Port) (tag : Byte) (operand : Byte) (s : State) : Host.Outcome State Fault Refusal :=
  .next (requestArrives port 28 tag (reqClearBar operand) (settle s))

/-- FORCE_OWNER: sub-function 4 of Source Control (R138). -/
def execForceOwner (port : Port) (tag : Byte) (operand : Byte) (s : State) : Host.Outcome State Fault Refusal :=
  .next (requestArrives port 28 tag (reqForceOwner operand) (settle s))

end Sys2Proof.Machine
end

