-- ==== Sys2Proof/Machine/TimeAndContacts.lean ====
section
/-! DEFINITION. The commands of the Timebase, the Schedule Table and the Contact Inputs. -/

namespace Sys2Proof.Machine

/-- TIME_SET (R149). -/
def execTimeSet (port : Port) (tag : Byte) (second : Triple) (weekday : Byte) (s : State) :
    Host.Outcome State Fault Refusal :=
  .next (requestArrives port 21 tag (reqTimeSet second weekday) (settle s))

/-- SCHEDULE_ADD (R150). -/
def execScheduleAdd (port : Port) (tag : Byte) (time : Triple) (weekdays pattern : Byte) (s : State) :
    Host.Outcome State Fault Refusal :=
  .next (requestArrives port 22 tag (reqScheduleAdd time weekdays pattern) (settle s))

/-- SCHEDULE_DELETE (R151). -/
def execScheduleDelete (port : Port) (tag : Byte) (time : Triple) (s : State) : Host.Outcome State Fault Refusal :=
  .next (requestArrives port 23 tag (reqScheduleDelete time) (settle s))

/-- SCHEDULE_CLEAR (R151). -/
def execScheduleClear (port : Port) (tag : Byte) (s : State) : Host.Outcome State Fault Refusal :=
  .next (requestArrives port 24 tag (reqScheduleClear) (settle s))

/-- SCHEDULE_HOLD (R151). -/
def execScheduleHold (port : Port) (tag : Byte) (value : Byte) (s : State) : Host.Outcome State Fault Refusal :=
  .next (requestArrives port 25 tag (reqScheduleHold value) (settle s))

/-- SCHEDULE_READ (R152). -/
def execScheduleRead (port : Port) (tag : Byte) (item : Byte) (s : State) : Host.Outcome State Fault Refusal :=
  .next (requestArrives port 26 tag (reqScheduleRead item) (settle s))

/-- CONTACT_SETUP (R158). -/
def execContactSetup (port : Port) (tag : Byte) (line sense action patternP patternQ : Byte) (s : State) :
    Host.Outcome State Fault Refusal :=
  .next (requestArrives port 27 tag (reqContactSetup line sense action patternP patternQ) (settle s))

end Sys2Proof.Machine
end

