-- ==== Sys2Proof/Machine/TowerTable.lean ====
section
/-! DEFINITION. The commands of the Tower Table. -/

namespace Sys2Proof.Machine

/-- TOWER_LOCKOUT (R125). -/
def execTowerLockout (port : Port) (tag : Byte) (tower value : Byte) (s : State) : Host.Outcome State Fault Refusal :=
  .next (requestArrives port 18 tag (reqTowerLockout tower value) (settle s))

/-- TOWER_RESTORE (R126). -/
def execTowerRestore (port : Port) (tag : Byte) (tower : Byte) (s : State) : Host.Outcome State Fault Refusal :=
  .next (requestArrives port 19 tag (reqTowerRestore tower) (settle s))

/-- TOWER_STATUS (R127). -/
def execTowerStatus (port : Port) (tag : Byte) (tower : Byte) (s : State) : Host.Outcome State Fault Refusal :=
  .next (requestArrives port 20 tag (reqTowerStatus tower) (settle s))

end Sys2Proof.Machine
end

