-- ==== Sys2Proof/Machine/Whole.lean ====
section
/-! DEFINITION. The requests that belong to the part as a whole. -/

namespace Sys2Proof.Machine

/-- STATION_QUERY (R166). -/
def execStationQuery (port : Port) (tag : Byte) (setting : Byte) (s : State) : Host.Outcome State Fault Refusal :=
  .next (requestArrives port 2 tag (reqStationQuery setting) (settle s))

/-- STATUS_QUERY (R167). -/
def execStatusQuery (port : Port) (tag : Byte) (s : State) : Host.Outcome State Fault Refusal :=
  .next (requestArrives port 3 tag (reqStatusQuery) (settle s))

/-- COUNTER_CLEAR (R168). -/
def execCounterClear (port : Port) (tag : Byte) (s : State) : Host.Outcome State Fault Refusal :=
  .next (requestArrives port 4 tag (reqCounterClear) (settle s))

/-- UNIT_RESET (R169). -/
def execUnitReset (port : Port) (tag : Byte) (s : State) : Host.Outcome State Fault Refusal :=
  .next (requestArrives port 5 tag (reqUnitReset) (settle s))

/-- NOTICE_SETUP (R175). -/
def execNoticeSetup (port : Port) (tag : Byte) (source enable level : Byte) (s : State) :
    Host.Outcome State Fault Refusal :=
  .next (requestArrives port 6 tag (reqNoticeSetup source enable level) (settle s))

end Sys2Proof.Machine
end

