-- ==== Sys2Proof/Machine/Dispatch.lean ====
section
/-! DEFINITION. One arm for each command. -/

namespace Sys2Proof.Machine

/-- The effect of a command on everything but the queue of commands that wait. -/
def exec (i : Instr) (s : State) : Host.Outcome State Fault Refusal :=
  match i with
  | .powerOnReset levels => Sys2Proof.Machine.execPowerOnReset levels s
  | .millisecondTick levels => Sys2Proof.Machine.execMillisecondTick levels s
  | .frameTimerExpiry => Sys2Proof.Machine.execFrameTimerExpiry s
  | .sampleFrame port bytes => Sys2Proof.Machine.execSampleFrame port bytes s
  | .requestFrame port bytes => Sys2Proof.Machine.execRequestFrame port bytes s
  | .idleFrame port bytes => Sys2Proof.Machine.execIdleFrame port bytes s
  | .towerReturnFrame bytes => Sys2Proof.Machine.execTowerReturnFrame bytes s
  | .stepTimerExpiry => Sys2Proof.Machine.execStepTimerExpiry s
  | .switchWaitTimeout => Sys2Proof.Machine.execSwitchWaitTimeout s
  | .travelLimitReached tower => Sys2Proof.Machine.execTravelLimitReached tower s
  | .silenceTimeReached tower => Sys2Proof.Machine.execSilenceTimeReached tower s
  | .windowLimitReached => Sys2Proof.Machine.execWindowLimitReached s
  | .holdoverExpiry port => Sys2Proof.Machine.execHoldoverExpiry port s
  | .ownerLoss => Sys2Proof.Machine.execOwnerLoss s
  | .secondAdvance => Sys2Proof.Machine.execSecondAdvance s
  | .contactDebouncedChange line => Sys2Proof.Machine.execContactDebouncedChange line s
  | .stationSetupArraySize port tag value => Sys2Proof.Machine.execStationSetupArraySize port tag value s
  | .stationSetupFrameRate port tag value => Sys2Proof.Machine.execStationSetupFrameRate port tag value s
  | .stationSetupStepPeriod port tag value => Sys2Proof.Machine.execStationSetupStepPeriod port tag value s
  | .stationSetupDropLength port tag value => Sys2Proof.Machine.execStationSetupDropLength port tag value s
  | .stationSetupCeiling port tag value => Sys2Proof.Machine.execStationSetupCeiling port tag value s
  | .stationSetupTravelWarn port tag value => Sys2Proof.Machine.execStationSetupTravelWarn port tag value s
  | .stationSetupTravelLimit port tag value => Sys2Proof.Machine.execStationSetupTravelLimit port tag value s
  | .stationSetupSilenceTime port tag value => Sys2Proof.Machine.execStationSetupSilenceTime port tag value s
  | .stationSetupMonWindow port tag value => Sys2Proof.Machine.execStationSetupMonWindow port tag value s
  | .stationSetupWindowLimit port tag value => Sys2Proof.Machine.execStationSetupWindowLimit port tag value s
  | .stationSetupVerifyTries port tag value => Sys2Proof.Machine.execStationSetupVerifyTries port tag value s
  | .stationSetupFailLimit port tag value => Sys2Proof.Machine.execStationSetupFailLimit port tag value s
  | .stationSetupHoldover port tag value => Sys2Proof.Machine.execStationSetupHoldover port tag value s
  | .stationSetupDebounce port tag value => Sys2Proof.Machine.execStationSetupDebounce port tag value s
  | .stationQuery port tag setting => Sys2Proof.Machine.execStationQuery port tag setting s
  | .statusQuery port tag => Sys2Proof.Machine.execStatusQuery port tag s
  | .counterClear port tag => Sys2Proof.Machine.execCounterClear port tag s
  | .unitReset port tag => Sys2Proof.Machine.execUnitReset port tag s
  | .noticeSetup port tag source enable level => Sys2Proof.Machine.execNoticeSetup port tag source enable level s
  | .patternOpen port tag pattern => Sys2Proof.Machine.execPatternOpen port tag pattern s
  | .patternHeader port tag pattern reference park cap ramp trimLimit fallback option => Sys2Proof.Machine.execPatternHeader port tag pattern reference park cap ramp trimLimit fallback option s
  | .towerEntry port tag pattern tower weightRe weightIm position expectedRe expectedIm tolerance => Sys2Proof.Machine.execTowerEntry port tag pattern tower weightRe weightIm position expectedRe expectedIm tolerance s
  | .towerEntryRemove port tag pattern tower => Sys2Proof.Machine.execTowerEntryRemove port tag pattern tower s
  | .patternClose port tag pattern => Sys2Proof.Machine.execPatternClose port tag pattern s
  | .patternErase port tag pattern => Sys2Proof.Machine.execPatternErase port tag pattern s
  | .patternRead port tag pattern item => Sys2Proof.Machine.execPatternRead port tag pattern item s
  | .weightTrim port tag pattern tower deltaRe deltaIm => Sys2Proof.Machine.execWeightTrim port tag pattern tower deltaRe deltaIm s
  | .shift port tag pattern => Sys2Proof.Machine.execShift port tag pattern s
  | .shiftCancel port tag => Sys2Proof.Machine.execShiftCancel port tag s
  | .abort port tag => Sys2Proof.Machine.execAbort port tag s
  | .towerLockout port tag tower value => Sys2Proof.Machine.execTowerLockout port tag tower value s
  | .towerRestore port tag tower => Sys2Proof.Machine.execTowerRestore port tag tower s
  | .towerStatus port tag tower => Sys2Proof.Machine.execTowerStatus port tag tower s
  | .timeSet port tag second weekday => Sys2Proof.Machine.execTimeSet port tag second weekday s
  | .scheduleAdd port tag time weekdays pattern => Sys2Proof.Machine.execScheduleAdd port tag time weekdays pattern s
  | .scheduleDelete port tag time => Sys2Proof.Machine.execScheduleDelete port tag time s
  | .scheduleClear port tag => Sys2Proof.Machine.execScheduleClear port tag s
  | .scheduleHold port tag value => Sys2Proof.Machine.execScheduleHold port tag value s
  | .scheduleRead port tag item => Sys2Proof.Machine.execScheduleRead port tag item s
  | .contactSetup port tag line sense action patternP patternQ => Sys2Proof.Machine.execContactSetup port tag line sense action patternP patternQ s
  | .setPreferredPort port tag operand => Sys2Proof.Machine.execSetPreferredPort port tag operand s
  | .setChangeoverMode port tag operand => Sys2Proof.Machine.execSetChangeoverMode port tag operand s
  | .clearBar port tag operand => Sys2Proof.Machine.execClearBar port tag operand s
  | .forceOwner port tag operand => Sys2Proof.Machine.execForceOwner port tag operand s
  | .discardedSourceFrame port bytes => Sys2Proof.Machine.execDiscardedSourceFrame port bytes s

end Sys2Proof.Machine
end

