-- ==== Sys2Proof/Machine/Senders.lean ====
section
/-! DEFINITION. What senders put on the links: the bytes of a source frame, of a Tower Return Frame, and of the Request
Frames that carry a whole request (R160, R176 to R179, R181). No command of the part uses them; the claims about the
receipt of frames are stated with them. -/

namespace Sys2Proof.Machine

/-- The bytes of a source frame (R177). -/
def encodeSourceFrame : SourceFrame → List Byte
  | .sample x claim => sealFrame ([1] ++ flag claim ++ pair x)
  | .requestFirst count code tag payload => sealFrame ([2] ++ u8 (128 + count) ++ [code, tag] ++ payload ++ [0])
  | .requestNext payload => sealFrame ([2, 0] ++ payload)
  | .idle => sealFrame [3]

/-- A component that two bytes carry (R176). -/
abbrev InSigned16 (x : Int) : Prop := -32768 ≤ x ∧ x ≤ 32767

/-- A source frame whose fields fit its layout (R177). -/
def frameFits : SourceFrame → Prop
  | .sample x _ => InSigned16 x.re ∧ InSigned16 x.im
  | .requestFirst count _ _ payload => count < 8 ∧ payload.length = 3
  | .requestNext payload => payload.length = 6
  | .idle => True

/-- The bytes of a Tower Return Frame (R181). -/
def encodeTowerReturn (slots : Tower → Option SlotReport) : List Byte :=
  sealFrame ([225] ++ (allTowers.map fun t => returnSlotBytes (slots t)).flatten)

/-- A slot report whose phasor, where it is valid, fits its layout (R181). -/
def reportFits (r : SlotReport) : Prop := ∀ z ∈ r.phasor, InSigned16 z.re ∧ InSigned16 z.im

/-- The payload bytes of a request (R178, R179); a command that is no request has none. -/
def requestPayload : Instr → List Byte
  | .stationSetupArraySize _ _ v => u8 1 ++ u16 v.toNat
  | .stationSetupFrameRate _ _ v => u8 2 ++ u16 v.toNat
  | .stationSetupStepPeriod _ _ v => u8 3 ++ u16 v.toNat
  | .stationSetupDropLength _ _ v => u8 4 ++ u16 v.toNat
  | .stationSetupCeiling _ _ v => u8 5 ++ u16 v.toNat
  | .stationSetupTravelWarn _ _ v => u8 6 ++ u16 v.toNat
  | .stationSetupTravelLimit _ _ v => u8 7 ++ u16 v.toNat
  | .stationSetupSilenceTime _ _ v => u8 8 ++ u16 v.toNat
  | .stationSetupMonWindow _ _ v => u8 9 ++ u16 v.toNat
  | .stationSetupWindowLimit _ _ v => u8 10 ++ u16 v.toNat
  | .stationSetupVerifyTries _ _ v => u8 11 ++ u16 v.toNat
  | .stationSetupFailLimit _ _ v => u8 12 ++ u16 v.toNat
  | .stationSetupHoldover _ _ v => u8 13 ++ u16 v.toNat
  | .stationSetupDebounce _ _ v => u8 14 ++ u16 v.toNat
  | .stationQuery _ _ setting => [setting]
  | .noticeSetup _ _ source enable level => [source, enable, level]
  | .patternOpen _ _ p => [p]
  | .patternHeader _ _ p reference park cap ramp trimLimit fallback option =>
    [p, reference, park] ++ u16 cap.toNat ++ u16 ramp.toNat ++ u16 trimLimit.toNat ++ [fallback, option]
  | .towerEntry _ _ p tower wre wim position xre xim tolerance =>
    [p, tower] ++ u16 wre.toNat ++ u16 wim.toNat ++ [position] ++ u16 xre.toNat ++ u16 xim.toNat ++ [tolerance]
  | .towerEntryRemove _ _ p tower => [p, tower]
  | .patternClose _ _ p => [p]
  | .patternErase _ _ p => [p]
  | .patternRead _ _ p item => [p, item]
  | .weightTrim _ _ p tower dre dim => [p, tower] ++ u16 dre.toNat ++ u16 dim.toNat
  | .shift _ _ p => [p]
  | .towerLockout _ _ tower value => [tower, value]
  | .towerRestore _ _ tower => [tower]
  | .towerStatus _ _ tower => [tower]
  | .timeSet _ _ second weekday => u24 second.toNat ++ [weekday]
  | .scheduleAdd _ _ time weekdays p => u24 time.toNat ++ [weekdays, p]
  | .scheduleDelete _ _ time => u24 time.toNat
  | .scheduleHold _ _ value => [value]
  | .scheduleRead _ _ item => [item]
  | .contactSetup _ _ line sense action p q => [line, sense, action, p, q]
  | .setPreferredPort _ _ x => [1, x]
  | .setChangeoverMode _ _ x => [2, x]
  | .clearBar _ _ x => [3, x]
  | .forceOwner _ _ x => [4, x]
  | _ => []

/-- The least number of frames whose payload bytes, 3 in the first and 6 in each continuation, hold so many bytes
(R178). -/
def frameCount (bytes : Nat) : Nat := 1 + (bytes - 3 + 5) / 6

/-- The Request Frames of a request of a code, a tag and a payload: the first one, then the continuations (R160, R177). -/
def requestRun (code tag : Byte) (payload : List Byte) : List (List Byte) :=
  let n := frameCount payload.length
  let full := padTo (6 * n - 3) payload
  encodeSourceFrame (.requestFirst n code tag (full.take 3))
    :: (List.range (n - 1)).map fun k => encodeSourceFrame (.requestNext ((full.drop (6 * k + 3)).take 6))

end Sys2Proof.Machine
end

