-- ==== Sys2Proof/Safety.lean ====
section
/-! DEFINITION. What counts as a safe state: the laws that the manual states of the part as a whole, one definition a
law, each decidable. They are what the claims about every step are stated in. -/

namespace Sys2Proof.Machine

/-! ### When a request is executed -/

/-- No event of a tick is due, and the port's assembly is IDLE and its reply slot EMPTY: a request that arrives there is
executed at once (R163). -/
abbrev State.admits (s : State) (p : Port) : Prop :=
  s.due = [] ∧ (s.port p).assembly = .idle ∧ (s.port p).slot = none

/-- The port, the request code and the tag of a request command (R178); none for every other command. -/
def requestOrigin : Instr → Option (Port × Byte × Byte)
  | .stationSetupArraySize p t _ | .stationSetupFrameRate p t _ | .stationSetupStepPeriod p t _
  | .stationSetupDropLength p t _ | .stationSetupCeiling p t _ | .stationSetupTravelWarn p t _
  | .stationSetupTravelLimit p t _ | .stationSetupSilenceTime p t _ | .stationSetupMonWindow p t _
  | .stationSetupWindowLimit p t _ | .stationSetupVerifyTries p t _ | .stationSetupFailLimit p t _
  | .stationSetupHoldover p t _ | .stationSetupDebounce p t _ => some (p, 1, t)
  | .stationQuery p t _ => some (p, 2, t)
  | .statusQuery p t => some (p, 3, t)
  | .counterClear p t => some (p, 4, t)
  | .unitReset p t => some (p, 5, t)
  | .noticeSetup p t _ _ _ => some (p, 6, t)
  | .patternOpen p t _ => some (p, 7, t)
  | .patternHeader p t _ _ _ _ _ _ _ _ => some (p, 8, t)
  | .towerEntry p t _ _ _ _ _ _ _ _ => some (p, 9, t)
  | .towerEntryRemove p t _ _ => some (p, 10, t)
  | .patternClose p t _ => some (p, 11, t)
  | .patternErase p t _ => some (p, 12, t)
  | .patternRead p t _ _ => some (p, 13, t)
  | .weightTrim p t _ _ _ _ => some (p, 14, t)
  | .shift p t _ => some (p, 15, t)
  | .shiftCancel p t => some (p, 16, t)
  | .abort p t => some (p, 17, t)
  | .towerLockout p t _ _ => some (p, 18, t)
  | .towerRestore p t _ => some (p, 19, t)
  | .towerStatus p t _ => some (p, 20, t)
  | .timeSet p t _ _ => some (p, 21, t)
  | .scheduleAdd p t _ _ _ => some (p, 22, t)
  | .scheduleDelete p t _ => some (p, 23, t)
  | .scheduleClear p t => some (p, 24, t)
  | .scheduleHold p t _ => some (p, 25, t)
  | .scheduleRead p t _ => some (p, 26, t)
  | .contactSetup p t _ _ _ _ _ => some (p, 27, t)
  | .setPreferredPort p t _ | .setChangeoverMode p t _ | .clearBar p t _ | .forceOwner p t _ => some (p, 28, t)
  | .powerOnReset _ | .millisecondTick _ | .frameTimerExpiry | .sampleFrame _ _ | .requestFrame _ _ | .idleFrame _ _
  | .towerReturnFrame _ | .stepTimerExpiry | .switchWaitTimeout | .travelLimitReached _ | .silenceTimeReached _
  | .windowLimitReached | .holdoverExpiry _ | .ownerLoss | .secondAdvance | .contactDebouncedChange _
  | .discardedSourceFrame _ _ => none

/-- The commands that take an event of a tick (R146). -/
def isTickEvent : Instr → Bool
  | .stepTimerExpiry | .switchWaitTimeout | .travelLimitReached _ | .silenceTimeReached _ | .windowLimitReached
  | .holdoverExpiry _ | .ownerLoss | .secondAdvance | .contactDebouncedChange _ => true
  | _ => false

/-- POWER_ON_RESET. -/
def isPowerOn : Instr → Bool
  | .powerOnReset _ => true
  | _ => false

/-- Commands taken one after another, stopping where one gives no next state. -/
def execAll : List Instr → State → Host.Outcome State Fault Refusal
  | [], s => .next s
  | c :: cs, s =>
    match exec c s with
    | .next t => execAll cs t
    | o => o

/-- The REQUEST_FRAME commands that carry a request command (R160, R178); none for every other command. -/
def requestFrames (c : Instr) : List Instr :=
  match requestOrigin c with
  | some (p, code, tag) => (requestRun code tag (requestPayload c)).map fun bytes => .requestFrame p bytes
  | none => []

/-! ### Settings (R52, R165) -/

/-- Every station setting lies within its range, and TRAVEL_WARN below TRAVEL_LIMIT (R52, R165). -/
abbrev Settings.Legal (x : Settings) : Prop :=
  (2 ≤ x.arraySize ∧ x.arraySize ≤ 12) ∧ (8000 ≤ x.frameRate ∧ x.frameRate ≤ 64000)
    ∧ (1 ≤ x.stepPeriod ∧ x.stepPeriod ≤ 16) ∧ (1 ≤ x.dropLength ∧ x.dropLength ≤ 1000) ∧ x.ceiling ≤ 65535
    ∧ (10 ≤ x.travelWarn ∧ x.travelWarn ≤ 2000) ∧ (20 ≤ x.travelLimit ∧ x.travelLimit ≤ 5000)
    ∧ x.travelWarn < x.travelLimit ∧ (2 ≤ x.silenceTime ∧ x.silenceTime ≤ 255)
    ∧ x.monWindow ∈ [1, 2, 4, 8, 16, 32, 64] ∧ (100 ≤ x.windowLimit ∧ x.windowLimit ≤ 10000)
    ∧ (1 ≤ x.verifyTries ∧ x.verifyTries ≤ 4) ∧ (1 ≤ x.failLimit ∧ x.failLimit ≤ 15)
    ∧ (5 ≤ x.holdover ∧ x.holdover ≤ 500) ∧ x.debounce ≤ 255

/-! ### Pattern Table (R2, R3, R4, R11, R20) -/

/-- A component lies within −32767 to +32767. -/
abbrev InWeight (x : Int) : Prop := -32767 ≤ x ∧ x ≤ 32767

/-- An entry of a record under a header and an array size: tower within the array, components within their ranges, and
each trim offset component within ± the trim limit (R2, R3). -/
abbrev Entry.Legal (arraySize : Nat) (h : Header) (e : Entry) : Prop :=
  e.tower.val < arraySize ∧ InWeight e.loaded.re ∧ InWeight e.loaded.im ∧ InWeight e.expected.re
    ∧ InWeight e.expected.im ∧ e.tolerance ≤ 255 ∧ e.trim.re.natAbs ≤ h.trimLimit ∧ e.trim.im.natAbs ≤ h.trimLimit

/-- A header's fields lie within their ranges (R1). -/
abbrev Header.Legal (h : Header) : Prop :=
  h.cap ≤ 65535 ∧ (1 ≤ h.ramp ∧ h.ramp ≤ 4000) ∧ h.trimLimit ≤ 2048

/-- An entry list holds at most one entry per tower, in ascending tower order, and every header field and entry field
lies within its range (R1, R2, R3). -/
abbrev PatternRecord.Legal (arraySize : Nat) (r : PatternRecord) : Prop :=
  ∀ h ∈ r.header,
    h.Legal ∧ r.entries.Pairwise (fun a b => a.tower < b.tower) ∧ ∀ e ∈ r.entries, e.Legal arraySize h

/-- A READY record has an entry for its reference tower, a cap within the ceiling, and a raw power within its cap
(R11, R15, R20). -/
abbrev PatternRecord.ReadyLegal (ceiling : Nat) (r : PatternRecord) : Prop :=
  r.isReady = true → ∀ h ∈ r.header,
    (∃ t, h.reference = some t ∧ (entryFor r.entries t).isSome = true) ∧ h.cap ≤ ceiling
      ∧ rawPower r.entries ≤ h.cap * 65536

/-- The Pattern Table's law of entry lists and header fields (R1, R2, R3). -/
abbrev State.EntriesLaw (s : State) : Prop := ∀ p : Slot, (s.record p).Legal s.settings.arraySize

/-- The Pattern Table's law of READY records (R11, R20). -/
abbrev State.ReadyLaw (s : State) : Prop := ∀ p : Slot, (s.record p).ReadyLegal s.settings.ceiling

/-- Every pattern in use is READY (R4). -/
abbrev State.MarksLaw (s : State) : Prop := ∀ p : Slot, s.inUse p = true → (s.record p).isReady = true

/-- The fallback link of a record; none for an EMPTY one (R106). -/
def fallbackLink (s : State) (p : Slot) : Option Slot := (s.record p).header.bind fun h => h.fallback

/-- The record that so many links lead to from a pattern (R106). -/
def fallbackWalk (s : State) (p : Slot) : Nat → Option Slot
  | 0 => some p
  | k + 1 => (fallbackWalk s p k).bind (fallbackLink s)

/-! ### Shift Queue (R56, R57, R59) -/

/-- The queue holds at most 4 orders, routine orders alone, each with a target, and no two neighbours name the same
target (R56, R57, R59). -/
abbrev State.QueueLaw (s : State) : Prop :=
  s.shift.queue.length ≤ 4 ∧ (∀ o ∈ s.shift.queue, o.cause.isRoutine = true ∧ o.target.isSome = true)
    ∧ s.shift.queue.IsChain (fun a b => a.target ≠ b.target)

/-! ### Weights (R22, R26, R27, R28, R54) -/

/-- A tower under the zero hold has live weight (0, 0) (R26). -/
abbrev State.ZeroHoldLaw (s : State) : Prop := ∀ t : Tower, s.zeroHold t = true → s.live t = Cpx.zero

/-- A network record above ARRAY_SIZE is UNKNOWN, and a JAMMED one stands with the JAMMED cause (R38, R47, R51). -/
abbrev State.NetworkLaw (s : State) : Prop :=
  ∀ t : Tower, (s.settings.arraySize ≤ t.val → (s.net t).state = .unknown)
    ∧ ((s.net t).state = .jammed → (s.tower t).causes.jammed = true)

/-- The raw power of twelve weights. -/
def powerOf (v : Vector Cpx 12) : Nat := (allTowers.map fun t => Cpx.power (v.get t)).sum

/-- Each live weight is the pattern's effective weight for its tower, or (0, 0) (R54). -/
abbrev State.RadiatesAtMost (s : State) (p : Slot) : Prop :=
  ∀ t : Tower, s.live t = (s.record p).weightFor t ∨ s.live t = Cpx.zero

/-- A running ramp has a positive step total that its step counter has not reached (R55, R66, R70). -/
abbrev Context.Ramping (c : Context) : Prop := c.stepCount < c.stepTotal.getD 0

/-- The context of a transition in flight (R55). -/
def ArrayState.context : ArrayState → Option Context
  | .shifting c => some c
  | _ => none

/-- The live pattern of STEADY (R54). -/
def ArrayState.livePattern : ArrayState → Option Slot
  | .steady p => some p
  | _ => none

/-- The law of a transition in flight: DROP and CROSS have steps to come; only a DROP may have no target; CROSS ends on
the target's effective weights; VERIFY stands on them; and the live weights and the start vector are within the ceiling
(R55, R66, R70, R71, R77). -/
abbrev State.ContextLaw (s : State) (c : Context) : Prop :=
  s.livePower ≤ s.settings.ceiling * 65536 ∧ powerOf c.startA ≤ s.settings.ceiling * 65536
    ∧ (c.phase = .drop ∨ c.phase = .cross → c.Ramping) ∧ (c.target = none → c.phase = .drop)
    ∧ ∀ p ∈ c.target,
      (c.phase = .cross → ∀ t : Tower, c.endB.get t = (s.record p).weightFor t)
        ∧ (c.phase = .verify → s.RadiatesAtMost p)

/-- The law of the array state: at rest every live weight is (0, 0), in STEADY the live pattern's weights stand, and a
transition keeps its own law (R27, R54). -/
abbrev State.ArrayLaw (s : State) : Prop :=
  (s.atRest = true → s.allZero = true) ∧ (∀ p ∈ s.shift.array.livePattern, s.RadiatesAtMost p)
    ∧ ∀ c ∈ s.shift.array.context, s.ContextLaw c

/-- The monitor watches only what stands on the air: the duty STEADY p belongs to STEADY with the live pattern p, and
VERIFY p to the VERIFY phase of a transition to p (R82, R84). -/
abbrev State.DutyLaw (s : State) : Prop :=
  ∀ p : Slot, (s.monitor.duty = .steady p → s.shift.array = .steady p)
    ∧ (s.monitor.duty = .verify p → ∃ c ∈ s.shift.array.context, c.phase = .verify ∧ c.target = some p)

/-- What the power law of R28 rests on, taken together. -/
abbrev State.PowerInvariant (s : State) : Prop :=
  s.settings.Legal ∧ s.EntriesLaw ∧ s.ReadyLaw ∧ s.MarksLaw ∧ s.ArrayLaw ∧ s.DutyLaw

/-- The power law: the live raw power is within the ceiling, and in STEADY within the live pattern's cap (R28). -/
abbrev State.PowerLaw (s : State) : Prop :=
  s.livePower ≤ s.settings.ceiling * 65536
    ∧ ∀ p ∈ s.shift.array.livePattern, ∀ h ∈ (s.record p).header, s.livePower ≤ h.cap * 65536

/-! ### Buffer, counters, step timer, clock and schedule (R31, R64, R83, R117, R131, R139, R143, R148, R150) -/

/-- The buffer holds at most 16 samples, fewer than 8 while PRIMING, and its counters stay within 65535 (R139, R140,
R143). -/
abbrev Buffer.Legal (b : Buffer) : Prop :=
  b.fifo.length ≤ 16 ∧ (b.state = .priming → b.fifo.length < 8) ∧ b.underruns ≤ 65535 ∧ b.overruns ≤ 65535

/-- A port's age and counters stay within 65535 (R131, R143). -/
abbrev PortState.Legal (p : PortState) : Prop :=
  p.age ≤ 65535 ∧ p.frameErrors ≤ 65535 ∧ p.discarded ≤ 65535 ∧ p.overruns ≤ 65535

/-- A monitor record's fields stay within their ranges (R83, R95). -/
abbrev MonRecord.Legal (r : MonRecord) : Prop := r.deviation ≤ 255 ∧ r.failCount ≤ 15 ∧ r.windows ≤ 65535

/-- Every saturating counter and every monitor field of the part lies within its range (R31, R83, R95, R117, R131,
R143). -/
abbrev State.CounterLaw (s : State) : Prop :=
  s.buffer.Legal ∧ s.portA.Legal ∧ s.portB.Legal ∧ s.link.returnErrors ≤ 65535
    ∧ (∀ t : Tower, s.engine.saturation.get t ≤ 65535) ∧ ∀ t : Tower, (s.monitor.records.get t).Legal

/-- The step timer's counter lies within 1 to 16, but for the moment between the tick at which a running timer reaches 0
and its expiry (R64). -/
abbrev State.StepTimerLaw (s : State) : Prop :=
  s.shift.timer.counter ≤ 16
    ∧ (s.shift.timer.counter = 0 → s.shift.timer.running = true ∧ TickEvent.stepTimer ∈ s.due)

/-- The clock's fields lie within their ranges (R148), and the Schedule Table holds at most 24 entries, of legal times
and nonempty weekday sets, in strictly increasing time order (R150). -/
abbrev State.TimeLaw (s : State) : Prop :=
  s.timebase.second ≤ 86399 ∧ s.timebase.subsecond ≤ 999 ∧ s.schedule.entries.length ≤ 24
    ∧ s.schedule.entries.Pairwise (fun a b => a.time < b.time)
    ∧ ∀ e ∈ s.schedule.entries, e.time ≤ 86399 ∧ e.days ≠ 0

end Sys2Proof.Machine
end

