-- ==== Sys2Proof/Certificates/Slice0/Obligations.lean ====
section
/-! DEFINITION. The statements about the model, listed in OBLIGATIONS.json. A request statement is an equation: the
state after the command is written out, so that it says the result, the reply and what stays as it was at once. -/

open Sys2Proof Sys2Proof.Machine

/-! ### The step and the queue of commands -/

/-- One step takes the command at the front of the queue and executes it with the rest of the queue waiting; with no
command waiting it changes nothing (the idling is the model's choice, log entry 1). -/
def Obligations.Step_runs_front_command : Prop :=
  (∀ (s : State) (c : Instr) (rest : List Instr),
    step { s with pending := c :: rest } = exec c { s with pending := rest })
  ∧ ∀ s : State, s.pending = [] → step s = .next s

/-- The power-on values of every block (R1, R5, R22, R36, R54, R56, R64, R82, R83, R104, R108, R120, R131, R132, R139,
R148, R150, R155, R161, R163, R165, R172). That the queue of waiting commands is kept is the model's choice, log entry
10. -/
def Obligations.Power_on_reset_state : Prop :=
  ∀ (s : State) (levels : BitVec 4), ∃ t, exec (.powerOnReset levels) s = .next t ∧ t.pending = s.pending
    ∧ t.settings =
      { arraySize := 12, frameRate := 32000, stepPeriod := 1, dropLength := 50, ceiling := 49152, travelWarn := 250,
        travelLimit := 1000, silenceTime := 20, monWindow := 8, windowLimit := 2000, verifyTries := 2, failLimit := 3,
        holdover := 50, debounce := 10 }
    ∧ (∀ p : Slot, t.record p = .empty)
    ∧ (∀ k : Tower, t.live k = ⟨0, 0⟩ ∧ t.engine.saturation.get k = 0)
    ∧ (∀ k : Tower, t.net k = { state := .unknown, commanded := none, travelTimer := 0, lastTravel := 0 })
    ∧ t.shift =
      { array := .noPattern, queue := [], timer := { counter := 1, running := false }, fallbackFlag := false,
        lastFailure :=
          { kind := .none, pattern := none, reason := none, tower := none, cause := none, flag := none, links := 0,
            outcome := none, fallback := none, dropReason := none } }
    ∧ t.monitor.duty = .none ∧ t.monitor.window = none
    ∧ (∀ k : Tower, t.monitor.records.get k =
      { average := ⟨0, 0⟩, deviation := 0, outcome := .untested, failCount := 0, out := false, windows := 0 })
    ∧ (∀ k : Tower, t.tower k =
      { present := false, paFault := false, lockout := false,
        causes := { paFault := false, silent := false, jammed := false, wrongPosition := false, upset := false },
        silenceTimer := 0, silenceRunning := true, lastSlot := none })
    ∧ t.link.returnErrors = 0
    ∧ (∀ p : Port, (t.port p).age = 0 ∧ (t.port p).present = false ∧ (t.port p).barred = false
      ∧ (t.port p).frameErrors = 0 ∧ (t.port p).discarded = 0 ∧ (t.port p).overruns = 0
      ∧ (t.port p).assembly = .idle ∧ (t.port p).slot = none)
    ∧ t.selector = { owner := .A, condition := .live, mode := .auto, preferred := .A }
    ∧ t.buffer = { fifo := [], state := .priming, held := ⟨0, 0⟩, underruns := 0, overruns := 0 }
    ∧ t.timebase.clock = .unset ∧ t.timebase.second = 0 ∧ t.timebase.weekday = 0 ∧ t.timebase.subsecond = 0
    ∧ t.schedule = { entries := [], hold := false }
    ∧ (∀ l : Line, (t.line l).sense = .activeHigh ∧ (t.line l).action = .none
      ∧ (t.line l).active = levels.getLsbD l.val ∧ (t.line l).count = 0)
    ∧ ∀ i : Fin 13, t.noticeSource i =
      { enabled := true, level := if i.val < 5 then .urgent else .routine, pending := none, repeated := false }

/-- The state after reset keeps every law that the statements about steps are made of. -/
def Obligations.Reset_keeps_every_law : Prop :=
  State.reset.PowerInvariant ∧ State.reset.PowerLaw ∧ State.reset.ZeroHoldLaw ∧ State.reset.NetworkLaw
    ∧ State.reset.QueueLaw ∧ State.reset.CounterLaw ∧ State.reset.TimeLaw ∧ State.reset.StepTimerLaw

/-! ### The events of a tick (the model's choice of how a tick and its events are taken: log entries 1 and 2) -/

/-- Every command but the tick's own events and POWER_ON_RESET first takes the events of the last tick that are still
due, and leaves none due for itself. An event command whose event is not due changes nothing, and so does one whose
number names no tower or line (the model's choices, log entries 1, 2 and 11). -/
def Obligations.Commands_and_due_events : Prop :=
  ((∀ (c : Instr) (s : State), isTickEvent c = false → isPowerOn c = false → exec c s = exec c (settle s))
    ∧ ∀ s : State, (settle s).due = [])
  ∧ ∀ s : State,
    (TickEvent.stepTimer ∉ s.due → exec .stepTimerExpiry s = .next s)
    ∧ (TickEvent.switchWait ∉ s.due → exec .switchWaitTimeout s = .next s)
    ∧ (∀ n : Nat, (∀ k : Tower, n = k.val + 1 → TickEvent.travel k ∉ s.due) →
      exec (.travelLimitReached n) s = .next s)
    ∧ (∀ n : Nat, (∀ k : Tower, n = k.val + 1 → TickEvent.silence k ∉ s.due) →
      exec (.silenceTimeReached n) s = .next s)
    ∧ (TickEvent.windowLimit ∉ s.due → exec .windowLimitReached s = .next s)
    ∧ (∀ p : Port, TickEvent.holdover p ∉ s.due → exec (.holdoverExpiry p) s = .next s)
    ∧ (TickEvent.ownerLoss ∉ s.due → exec .ownerLoss s = .next s)
    ∧ (TickEvent.second ∉ s.due → exec .secondAdvance s = .next s)
    ∧ ∀ n : Nat, (∀ l : Line, n = l.val + 1 → TickEvent.contact l ∉ s.due) →
      exec (.contactDebouncedChange n) s = .next s

/-- One tick advances every millisecond counter by its own block's rule (R44, R64, R69, R87, R122, R131, R146, R148,
R156) and changes nothing else but the list of events due and the levels of the contact lines. The levels that the tick
samples, and those at which the lines stand behind it, come with the tick, and the sub-second count waits at 999 for the
advance of the second: the model's choices, log entries 3 and 20. -/
def Obligations.Tick_advances_counters : Prop :=
  ∀ (s : State) (levels after : BitVec 4), s.due = [] → ∃ t, exec (.millisecondTick ⟨levels, after⟩) s = .next t
    ∧ t.shift.timer =
      { counter := if s.shift.timer.running then s.shift.timer.counter - 1 else s.shift.timer.counter,
        running := s.shift.timer.running }
    ∧ (∀ c, s.shift.array = .shifting c → c.phase = .switch → c.switchWait ≤ 5000 →
      t.shift.array = .shifting { c with switchWait := min (c.switchWait + 1) 5000 })
    ∧ ((∀ c, s.shift.array = .shifting c → c.phase ≠ .switch) → t.shift.array = s.shift.array)
    ∧ t.shift.queue = s.shift.queue ∧ t.shift.fallbackFlag = s.shift.fallbackFlag
    ∧ t.shift.lastFailure = s.shift.lastFailure
    ∧ (∀ k : Tower, t.net k =
      { s.net k with
        travelTimer := if (s.net k).state.isMoving then (s.net k).travelTimer + 1 else (s.net k).travelTimer })
    ∧ (∀ k : Tower, t.tower k =
      { s.tower k with
        silenceTimer := if (s.tower k).silenceRunning then (s.tower k).silenceTimer + 1 else (s.tower k).silenceTimer })
    ∧ t.link.returnErrors = s.link.returnErrors ∧ t.link.driveFrame = s.link.driveFrame
    ∧ t.monitor = { s.monitor with window := s.monitor.window.map fun w => { w with timer := w.timer + 1 } }
    ∧ (∀ p : Port, (s.port p).age ≤ 65535 → t.port p = { s.port p with age := min ((s.port p).age + 1) 65535 })
    ∧ t.timebase =
      { s.timebase with
        subsecond :=
          if s.timebase.clock = .running ∧ s.timebase.subsecond < 999 then s.timebase.subsecond + 1
          else s.timebase.subsecond }
    ∧ (∀ l : Line,
      let level := levels.getLsbD l.val
      let sampled := if (s.line l).sense = .activeHigh then level else !level
      t.line l =
        { s.line l with
          input := level, pin := after.getLsbD l.val
          count := if sampled = (s.line l).active then 0 else (s.line l).count + 1 })
    ∧ t.settings = s.settings ∧ t.patterns = s.patterns ∧ t.engine = s.engine ∧ t.selector = s.selector
    ∧ t.buffer = s.buffer ∧ t.schedule = s.schedule ∧ t.notices = s.notices ∧ t.pending = s.pending

/-- After a tick exactly the events are due whose counters have reached their limits, in the order of R146's table
(R47, R64, R69, R87, R122, R131, R136, R148, R156). That they stand in a list until they are taken is the model's
choice, log entries 1 and 2. -/
def Obligations.Tick_makes_events_due : Prop :=
  ∀ (s : State) (levels after : BitVec 4), s.due = [] → ∃ t, exec (.millisecondTick ⟨levels, after⟩) s = .next t
    ∧ t.due.Sublist allEvents
    ∧ (TickEvent.stepTimer ∈ t.due ↔ t.shift.timer.running = true ∧ t.shift.timer.counter = 0)
    ∧ (TickEvent.switchWait ∈ t.due ↔
      ∃ c, t.shift.array = .shifting c ∧ c.phase = .switch ∧ t.settings.travelLimit ≤ c.switchWait)
    ∧ (∀ k : Tower, TickEvent.travel k ∈ t.due ↔
      (t.net k).state.isMoving = true ∧ t.settings.travelLimit ≤ (t.net k).travelTimer)
    ∧ (∀ k : Tower, TickEvent.silence k ∈ t.due ↔
      (t.tower k).silenceRunning = true ∧ t.settings.silenceTime ≤ (t.tower k).silenceTimer)
    ∧ (TickEvent.windowLimit ∈ t.due ↔ ∃ w, t.monitor.window = some w ∧ w.limit ≤ w.timer)
    ∧ (∀ p : Port, TickEvent.holdover p ∈ t.due ↔ (t.port p).present = true ∧ t.settings.holdover ≤ (t.port p).age)
    ∧ (TickEvent.ownerLoss ∈ t.due ↔
      t.selector.condition = .live ∧ t.settings.holdover ≤ (t.port t.selector.owner).age)
    ∧ (TickEvent.second ∈ t.due ↔ s.timebase.clock = .running ∧ 999 ≤ s.timebase.subsecond)
    ∧ ∀ l : Line, TickEvent.contact l ∈ t.due ↔
      (t.line l).sampled ≠ (t.line l).active ∧ t.settings.debounce < (t.line l).count

/-! ### Requests as a whole (R160 to R164) -/

/-- A request that finds its port's reply slot FULL is not executed and is counted as an overrun; one that finds a
request ASSEMBLING abandons it first, so that a slot that was EMPTY takes the abandonment's BAD_REQUEST and the request
itself is counted as an overrun (R162, R163). A request command is the arrival of its whole run of frames: the model's
choice, log entry 9. -/
def Obligations.Request_turned_away : Prop :=
  ∀ (c : Instr) (p : Port) (code tag : Byte) (s : State), requestOrigin c = some (p, code, tag) → s.due = [] →
    (∀ r, (s.port p).slot = some r → (s.port p).assembly = .idle →
      exec c s = .next (s.setPort p { s.port p with overruns := bump (s.port p).overruns }))
    ∧ (∀ r code' tag' n m pl, (s.port p).slot = some r → (s.port p).assembly = .assembling code' tag' n m pl →
      exec c s =
        .next (s.setPort p { s.port p with assembly := .idle, overruns := bump (bump (s.port p).overruns) }))
    ∧ ∀ code' tag' n m pl, (s.port p).slot = none → (s.port p).assembly = .assembling code' tag' n m pl →
      exec c s =
        .next (s.setPort p
          { s.port p with
            assembly := .idle
            slot := some { request := code', tag := tag', reply := refuse .badRequest, sent := 0 }
            overruns := bump (s.port p).overruns })

/-- Every request that is executed places one reply, and a refused one changes nothing but the reply slot; only
CHECK_FAILED with CAP_EXCEEDED returns values with a refusal (R163, R164). -/
def Obligations.Refused_request_changes_nothing : Prop :=
  ∀ (c : Instr) (p : Port) (code tag : Byte) (s : State), requestOrigin c = some (p, code, tag) → s.admits p →
    ∃ (r : Reply) (t : State), exec c s = .next t
      ∧ (t.port p).slot = some { request := code, tag := tag, reply := r, sent := 0 }
      ∧ (r.code ≠ .ok → r.code ≠ .accepted →
        t = placeReply p code tag r s ∧ (r.values ≠ [] → r.code = .checkFailed ∧ r.reason = some .capExceeded))

/-- A request command does what the run of its Request Frames does, frame by frame, in every state of the port, a FULL
reply slot and a request in assembly among them: the byte layouts of R177 to R179 and the request rows agree, and the last
frame completes the request as R163 says. That a request row stands for such a run is the model's choice, log entry 9. -/
def Obligations.Request_command_equals_its_frames : Prop :=
  ∀ (c : Instr) (p : Port) (code tag : Byte) (s : State), requestOrigin c = some (p, code, tag) →
    requestFrames c ≠ [] ∧ execAll (requestFrames c) s = exec c s

/-! ### Frames on the links (R176, R177, R181) -/

/-- A source frame whose fields fit its layout is received as what was sent, and so is a Tower Return Frame whose
phasors fit theirs, slot by slot. -/
def Obligations.Frames_round_trip : Prop :=
  (∀ f : SourceFrame, frameFits f → decodeSourceFrame (encodeSourceFrame f) = some f)
  ∧ ∀ slots : Tower → Option SlotReport, (∀ t, ∀ r ∈ slots t, reportFits r) →
    decodeTowerReturn (encodeTowerReturn slots) = some (allTowers.map fun t => (t, slots t))

/-! ### The drive and the frame timer (chapters 2, 7, 8 and 10) -/

/-- The drive computation: the exact products, their bounds, the division by 16384 to the nearest integer with ties away
from zero, the negated drive of a negated weight (R30); and the clamp to −32767 to +32767, which limits a drive value
(R31) and forms an entry's effective weight (R3). -/
def Obligations.Drive_value_rule : Prop :=
  (∀ x w : Cpx, driveProduct x w = ⟨x.re * w.re - x.im * w.im, x.re * w.im + x.im * w.re⟩
    ∧ driveRounded x w = ⟨roundDrive (x.re * w.re - x.im * w.im), roundDrive (x.re * w.im + x.im * w.re)⟩
    ∧ driveValue x w = ⟨clampWeight (driveRounded x w).re, clampWeight (driveRounded x w).im⟩)
  ∧ (∀ x w : Cpx, InSigned16 x.re → InSigned16 x.im → InWeight w.re → InWeight w.im →
    (-2147418112 ≤ (driveProduct x w).re ∧ (driveProduct x w).re ≤ 2147418112)
      ∧ -2147418112 ≤ (driveProduct x w).im ∧ (driveProduct x w).im ≤ 2147418112)
  ∧ (∀ n : Int, clampWeight n = max (-32767) (min 32767 n))
  ∧ (∀ e : Entry, e.effective =
    ⟨max (-32767) (min 32767 (e.loaded.re + e.trim.re)), max (-32767) (min 32767 (e.loaded.im + e.trim.im))⟩)
  ∧ (∀ n : Int, 2 * (16384 * roundDrive n - n).natAbs ≤ 16384)
  ∧ (∀ n : Int, 2 * (16384 * roundDrive n - n).natAbs = 16384 → n.natAbs < 16384 * (roundDrive n).natAbs)
  ∧ (∀ n : Int, roundDrive (-n) = -roundDrive n)
  ∧ (∀ x w : Cpx, driveRounded x ⟨-w.re, -w.im⟩ = ⟨-(driveRounded x w).re, -(driveRounded x w).im⟩)
  ∧ roundDrive 8192 = 1 ∧ roundDrive (-8192) = -1 ∧ roundDrive 24576 = 2 ∧ roundDrive (-24576) = -2
  ∧ roundDrive 8191 = 0

/-- At each expiry of the frame timer the buffer gives one sample, whatever the state of the part; the held sample
that it leaves is the sample given, and drives the array; with a push at the same moment the two orders give what the
table shows; the underrun and overrun counters stay at 65535 (R29, R115, R139, R140, R141, R143). The Drive Frame is seen
as the bytes last emitted: the model's choice, log entry 4. -/
def Obligations.Buffer_gives_one_sample : Prop :=
  (∀ s : State, s.due = [] → ∃ t, exec .frameTimerExpiry s = .next t ∧ t.buffer = s.buffer.take
    ∧ t.link.driveFrame = driveFrameBytes (driveSlot s s.buffer.take.held))
  ∧ (∀ b : Buffer, b.state = .priming → b.take = b)
  ∧ (∀ (b : Buffer) (x : Cpx) (rest : List Cpx), b.state = .running → b.fifo = x :: rest →
    b.take = { b with fifo := rest, held := x })
  ∧ (∀ b : Buffer, b.state = .running → b.fifo = [] → b.underruns ≤ 65535 →
    b.take = { b with underruns := min (b.underruns + 1) 65535 })
  ∧ (∀ (b : Buffer) (y : Cpx), b.state = .priming → b.fifo.length = 7 →
    ((b.push y).take.fifo.length = 7 ∧ (b.push y).take.state = .running)
      ∧ b.take.held = b.held ∧ (b.take.push y).fifo.length = 8 ∧ (b.take.push y).state = .running)
  ∧ (∀ (b : Buffer) (y : Cpx), b.state = .running → b.fifo.length = 16 → b.overruns ≤ 65535 →
    (b.push y = { b with overruns := min (b.overruns + 1) 65535 } ∧ (b.push y).take.fifo.length = 15)
      ∧ (b.take.push y).overruns = b.overruns ∧ (b.take.push y).fifo.length = 16)
  ∧ (∀ (b : Buffer) (y : Cpx), b.state = .running → b.fifo = [] → b.underruns ≤ 65535 →
    ((b.push y).take.fifo = [] ∧ (b.push y).take.held = y ∧ (b.push y).take.underruns = b.underruns)
      ∧ (b.take.push y).underruns = min (b.underruns + 1) 65535 ∧ (b.take.push y).fifo = [y])

/-- The Drive Frame byte by byte: the kind 209; for towers 1 to 12 the drive-valid flag, the move flag, the target
position, the drive I and the drive Q; and the check. One expiry of the frame timer emits one Drive Frame of twelve slots: a slot above ARRAY_SIZE, of a locked-out or
unusable tower, or under mute carries a null drive; every other carries the drive of the sample given and the live
weight; the move part follows the network record; each slot that clamps counts, and SATURATION is raised once. The live
weights and the blocks that an expiry does not concern stay as they are (R29, R31, R32, R43, R115, R176, R181). The Drive
Frame is seen as the bytes last emitted: the model's choice, log entry 4. -/
def Obligations.Frame_expiry_drives : Prop :=
  (∀ slots : Tower → DriveSlot,
    let byte := fun n : Nat => (BitVec.ofNat 8 n : Byte)
    let half := fun x : Int => [byte ((BitVec.ofInt 16 x).toNat / 256), byte (BitVec.ofInt 16 x).toNat]
    let slot := fun d : DriveSlot =>
      byte ((if d.valid then 128 else 0) + (match d.move with | some q => 64 + q.val | none => 0))
        :: (half d.drive.re ++ half d.drive.im)
    let content := byte 209 :: ((List.finRange 12).map fun k => slot (slots k)).flatten
    let sum := (content.map fun b => b.toNat).sum % 65536
    driveFrameBytes slots = content ++ [byte (sum / 256), byte sum])
  ∧ ∀ s : State, s.due = [] →
    let x := s.buffer.take.held
    let closed := fun k : Tower =>
      decide (s.settings.arraySize ≤ k.val) || (s.tower k).lockout || (s.tower k).causes.any || s.mute
    let clamped := allTowers.filter fun k => !closed k && driveValue x (s.live k) != driveRounded x (s.live k)
    ∃ t, exec .frameTimerExpiry s = .next t
      ∧ t.link.driveFrame = driveFrameBytes (fun k =>
        { valid := !closed k
          move :=
            match (s.net k).state with
            | .moving q _ => if k.val < s.settings.arraySize then some q else none
            | _ => none
          drive := if closed k then ⟨0, 0⟩ else driveValue x (s.live k) })
      ∧ t.engine.live = s.engine.live
      ∧ (∀ k : Tower, t.engine.saturation.get k =
        if k ∈ clamped then bump (s.engine.saturation.get k) else s.engine.saturation.get k)
      ∧ (emitDrive (s.setBuffer s.buffer.take)).notices =
        (match clamped with
        | [] => s.notices
        | k :: ks => (raise (.saturation k (ks.length + 1)) s).notices)
      ∧ t.link.towers = s.link.towers ∧ t.link.returnErrors = s.link.returnErrors ∧ t.settings = s.settings
      ∧ t.patterns = s.patterns ∧ t.nets = s.nets ∧ t.shift = s.shift ∧ t.monitor = s.monitor
      ∧ t.selector = s.selector ∧ t.timebase.clock = s.timebase.clock ∧ t.timebase.second = s.timebase.second
      ∧ t.timebase.weekday = s.timebase.weekday ∧ t.timebase.subsecond = s.timebase.subsecond
      ∧ t.schedule = s.schedule ∧ t.lines = s.lines ∧ t.due = [] ∧ t.pending = s.pending

/-- At one expiry each port sends one Return Frame: the next reply frame where its slot is FULL; else, on the owner's
port, the chosen notice, which is cleared; else nothing. The summary is that of the state the expiry leaves (its
notice-pending field after the selection: the model's reading, log entry 8). The notices chosen from are those the
Drive Frame of the same expiry leaves (R163, R170, R171, R174). The Return Frame is seen as the bytes last sent: the
model's choice, log entry 4. -/
def Obligations.Frame_expiry_returns : Prop :=
  ∀ s : State, s.due = [] →
    let d := emitDrive (s.setBuffer s.buffer.take)
    ∃ t, exec .frameTimerExpiry s = .next t
      ∧ (∀ p r, (s.port p).slot = some r →
        t.port p =
          { s.port p with
            slot := if replyFrames r.reply ≤ r.sent + 1 then none else some { r with sent := r.sent + 1 }
            returnFrame := returnFrameBytes t.statusByte1 t.statusByte2 (.reply (replyBody r r.sent)) })
      ∧ (∀ p i n, (s.port p).slot = none → p = s.selector.owner → chosenSource d = some i →
        (d.noticeSource i).pending = some n →
        t.port p =
          { s.port p with
            returnFrame :=
              returnFrameBytes t.statusByte1 t.statusByte2 (.notice (noticeBody n (d.noticeSource i).repeated)) }
        ∧ t.notices = (d.setNoticeSource i { d.noticeSource i with pending := none, repeated := false }).notices)
      ∧ (∀ p, (s.port p).slot = none → (p ≠ s.selector.owner ∨ chosenSource d = none) →
        t.port p =
          { s.port p with returnFrame := returnFrameBytes t.statusByte1 t.statusByte2 .nothing })
      ∧ ((s.port s.selector.owner).slot ≠ none ∨ chosenSource d = none → t.notices = d.notices)

/-- The Return Frame byte by byte: the kind, the two bytes of the status summary, the content with its body of twelve
bytes, and the check; the fields of the summary with their bits; the body of each of the thirteen notices with its order
number, repeat bit and payload; the body of a reply frame; and the number of frames in a reply, the least that holds its
values (R171, R176, R177, R178, R180). -/
def Obligations.Return_frame_bytes : Prop :=
  let byte := fun n : Nat => (BitVec.ofNat 8 n : Byte)
  let fill := fun bs : List Byte => bs ++ List.replicate (12 - bs.length) 0
  let framed := fun bs : List Byte =>
    let sum := (bs.map fun b => b.toNat).sum % 65536
    bs ++ [byte (sum / 256), byte (sum % 256)]
  let reason : Reason → Byte := fun r =>
    match r with
    | .noEntries => 1 | .noReference => 2 | .zeroExpected => 3 | .capAboveCeiling => 4 | .capExceeded => 5
    | .notReady => 16 | .notUsable => 17 | .jammed => 18 | .towerFault => 19 | .verifyFail => 20 | .aborted => 21
    | .monitorOut => 22 | .secondFailure => 32 | .noFallback => 33 | .held => 48 | .safe => 49 | .queueFull => 50
  let cause : OrderCause → Byte := fun c =>
    match c with | .manual => 0 | .schedule => 1 | .contact => 2 | .fallback => 3 | .abort => 4 | .safe => 5
  let unusable : UnusableCause → Byte := fun c =>
    match c with | .paFault => 1 | .silent => 2 | .jammed => 3 | .wrongPosition => 4 | .upset => 5
  let outcome : Verdict → Byte := fun v =>
    match v with | .pass => 0 | .fail => 1 | .silent => 2 | .untested => 3 | .refSilent => 4
  let code : ReplyCode → Byte := fun c =>
    match c with
    | .ok => 0 | .accepted => 1 | .badRequest => 2 | .badValue => 3 | .badState => 4 | .inUse => 5 | .busy => 6
    | .collision => 7 | .queueFull => 8 | .notUsable => 9 | .checkFailed => 10 | .tableFull => 11 | .duplicate => 12
    | .notFound => 13
  let tower := fun k : Tower => byte (k.val + 1)
  let pattern := fun p : Slot => byte p.val
  let target := fun p : Option Slot => match p with | some q => pattern q | none => 255
  let port := fun p : Port => match p with | .A => (0 : Byte) | .B => 1
  let three := fun n : Nat => [byte (n / 65536), byte (n / 256), byte n]
  (∀ (a b : Nat),
    returnFrameBytes a b .nothing = framed ([129, byte a, byte b, 0] ++ List.replicate 12 0)
    ∧ ∀ body : List Byte,
      returnFrameBytes a b (.reply body) = framed ([129, byte a, byte b, 1] ++ body)
        ∧ returnFrameBytes a b (.notice body) = framed ([129, byte a, byte b, 2] ++ body))
  ∧ (∀ s : State,
    s.statusByte1 =
        (match s.shift.array with
        | .noPattern => 0
        | .steady p => 64 + 8 * p.val
        | .shifting c => 128 + (match c.phase with | .drop => 0 | .switch => 2 | .cross => 4 | .verify => 6)
        | .safe => 192) + (if s.selector.owner = .B then 1 else 0)
      ∧ s.statusByte2 =
        (if s.selector.condition = .lost then 128 else 0)
          + (if ∃ k : Tower, k.val < s.settings.arraySize ∧ (s.tower k).causes ≠ Causes.none then 64 else 0)
          + (if ∃ k : Tower, s.settings.failLimit ≤ (s.monitor.records.get k).failCount then 32 else 0)
          + (if ∃ l : Line, (s.line l).action = .mute ∧ (s.line l).active = true then 16 else 0)
          + (if ∃ i : Fin 13, (s.noticeSource i).enabled = true ∧ (s.noticeSource i).pending ≠ none then 8 else 0))
  ∧ (∀ repeated : Bool,
    let body := fun (source : Byte) (payload : List Byte) => fill ([source, if repeated then 1 else 0] ++ payload)
    (∀ p r, noticeBody (.safeEntered p r) repeated = body 1 [pattern p, reason r])
    ∧ (∀ k c, noticeBody (.towerFault k c) repeated = body 2 [tower k, unusable c])
    ∧ (∀ p r, noticeBody (.shiftFailed p r none) repeated = body 3 [target p, reason r, 255, 255, 255])
    ∧ (∀ p r k v d, noticeBody (.shiftFailed p r (some (k, v, d))) repeated =
      body 3 [target p, reason r, tower k, outcome v, byte d])
    ∧ (∀ p f r, noticeBody (.fallbackStarted p f r) repeated = body 4 [pattern p, pattern f, reason r])
    ∧ (∀ k d, noticeBody (.monitorOut k d) repeated = body 5 [tower k, byte d])
    ∧ (∀ p, noticeBody (.sourceContention p) repeated = body 6 [port p]
      ∧ noticeBody (.driveLost p) repeated = body 7 [port p] ∧ noticeBody (.changeover p) repeated = body 8 [port p])
    ∧ (∀ p c w, noticeBody (.shiftDone p c w) repeated = body 9 [target p, cause c, byte w])
    ∧ (∀ k n, noticeBody (.contactorSlow k n) repeated = body 10 [tower k, byte (n / 256), byte n])
    ∧ (∀ n r, noticeBody (.scheduleSkipped n r) repeated = body 11 (three n ++ [reason r]))
    ∧ (∀ k n, noticeBody (.saturation k n) repeated = body 12 [tower k, byte n])
    ∧ ∀ p c,
      (∀ x, noticeBody (.orderDiscarded p c (.port x)) repeated = body 13 [target p, cause c, 0, 0, 0, port x])
      ∧ (∀ n, noticeBody (.orderDiscarded p c (.time n)) repeated = body 13 ([target p, cause c, 1] ++ three n))
      ∧ (∀ l : Line, noticeBody (.orderDiscarded p c (.line l)) repeated =
        body 13 [target p, cause c, 2, 0, 0, byte (l.val + 1)])
      ∧ ∀ q, noticeBody (.orderDiscarded p c (.pattern q)) repeated = body 13 [target p, cause c, 3, 0, 0, pattern q])
  ∧ (∀ (r : Reply) (n : Nat), replyFrames r ≤ n ↔ 1 ≤ n ∧ r.values.length + 2 ≤ 9 * n)
  ∧ ∀ x : ReplySlot,
    replyBody x 0 =
        fill ([x.request, x.tag, code x.reply.code, match x.reply.reason with | some r => reason r | none => 0,
          byte (replyFrames x.reply)] ++ x.reply.values.take 7)
      ∧ ∀ k : Nat, replyBody x (k + 1) =
        fill ([x.request, x.tag, byte (k + 2)] ++ (x.reply.values.drop (9 * k + 7)).take 9)

/-- A raise of a disabled source is discarded; of one not pending, it becomes pending with its repeat bit clear; of one
pending, the payload is replaced and the repeat bit set; no other source and no other block changes. The Notice Selector
chooses the first pending enabled URGENT source in the order of R172, or, where there is none, the first pending enabled
ROUTINE one, and none only where no enabled source is pending. Notice Setup sets one source's enable and level and
returns them as they stood; a source it disables loses its notice; a source, enable or level out of its set is refused
BAD_VALUE (R172, R173, R174, R175). -/
def Obligations.Notices_raised_and_chosen : Prop :=
  (∀ (n : Notice) (s : State),
    ((s.noticeSource n.source).enabled = false → raise n s = s)
    ∧ ((s.noticeSource n.source).enabled = true →
      raise n s =
        s.setNoticeSource n.source
          { enabled := true, level := (s.noticeSource n.source).level, pending := some n,
            repeated := (s.noticeSource n.source).pending.isSome }))
  ∧ (∀ (s : State) (i : Fin 13), chosenSource s = some i ↔
    (s.noticeSource i).enabled = true ∧ (s.noticeSource i).pending ≠ none
      ∧ (∀ j, j < i → (s.noticeSource j).enabled = true → (s.noticeSource j).pending ≠ none →
        (s.noticeSource j).level ≠ (s.noticeSource i).level)
      ∧ ((s.noticeSource i).level = .routine →
        ∀ j, (s.noticeSource j).enabled = true → (s.noticeSource j).pending ≠ none →
          (s.noticeSource j).level = .routine))
  ∧ (∀ s : State, chosenSource s = none ↔
    ∀ j, (s.noticeSource j).enabled = true → (s.noticeSource j).pending = none)
  ∧ ∀ (s : State) (p : Port) (tag source enable level : Byte), s.admits p →
    exec (.noticeSetup p tag source enable level) s = .next (
      if h : (1 ≤ source.toNat ∧ source.toNat ≤ 13) ∧ enable.toNat ≤ 1 ∧ level.toNat ≤ 1 then
        let i : Fin 13 := ⟨source.toNat - 1, by omega⟩
        let n := s.noticeSource i
        let l : Level := if level = 1 then .urgent else .routine
        placeReply p 6 tag (replyOk (flag n.enabled ++ u8 n.level.number))
          (s.setNoticeSource i
            (if enable = 1 then { enabled := true, level := l, pending := n.pending, repeated := n.repeated }
            else { enabled := false, level := l, pending := none, repeated := false }))
      else placeReply p 6 tag (refuse .badValue) s)

/-! ### Ramps (R64, R66, R70, R71, R77, R110) -/

/-- One step of a running DROP or CROSS ramp before its last: the step counter advances, the step timer is reloaded,
and all twelve weights are written, a tower under the zero hold to (0, 0). Nothing else changes. The last step of a DROP
toward a target leaves the towers of the switch set at (0, 0) and the others at their start weights, stops the timer and
begins SWITCH: each tower of the set receives one move request, answered by its network, and SWITCH ends at once where
all of them stand where they are wanted (R26, R38, R40, R64, R66, R67, R70, R77, R110). -/
def Obligations.Ramp_step_writes_weights : Prop :=
  (∀ (s : State) (c : Context) (n : Nat), TickEvent.stepTimer ∈ s.due →
    s.shift.timer = { counter := 0, running := true } → s.shift.array = .shifting c →
    (c.phase = .drop ∨ c.phase = .cross) → c.stepTotal = some n → c.stepCount + 1 < n →
    let a := fun k : Tower => c.startA.get k
    let b := fun k : Tower => c.endB.get k
    let left : Int := n - (c.stepCount + 1 : Nat)
    let done : Int := (c.stepCount + 1 : Nat)
    exec .stepTimerExpiry s = .next
      { s with
        due := s.due.erase .stepTimer
        shift :=
          { s.shift with
            array := .shifting { c with stepCount := c.stepCount + 1 }
            timer := { counter := s.settings.stepPeriod, running := true } }
        engine :=
          { s.engine with
            live := tab fun k =>
              if s.zeroHold k then ⟨0, 0⟩
              else if c.phase = .cross then
                ⟨((a k).re * left + (b k).re * done).tdiv n, ((a k).im * left + (b k).im * done).tdiv n⟩
              else if c.target = none ∨ k ∈ c.switchSet then ⟨((a k).re * left).tdiv n, ((a k).im * left).tdiv n⟩
              else a k } })
  ∧ ∀ (s : State) (c : Context) (n : Nat) (p : Slot), TickEvent.stepTimer ∈ s.due →
    s.shift.timer = { counter := 0, running := true } → s.shift.array = .shifting c → c.phase = .drop →
    c.target = some p → c.stepTotal = some n → c.stepCount + 1 = n →
    (∀ k ∈ c.switchSet, k.val < s.settings.arraySize ∧ s.outOfService k = false ∧ (s.net k).state ≠ .jammed) →
    let wanted := fun k : Tower => (s.record p).wanted k
    exec .stepTimerExpiry s = .next (endSwitchIfDone
      { s with
        due := s.due.erase .stepTimer
        shift :=
          { s.shift with
            array := .shifting { c with phase := .switch, stepCount := 0, stepTotal := none, switchWait := 0 }
            timer := { counter := s.settings.stepPeriod, running := false } }
        engine :=
          { s.engine with
            live := tab fun k => if s.zeroHold k = true ∨ k ∈ c.switchSet then ⟨0, 0⟩ else c.startA.get k }
        nets := tab fun k =>
          if k ∈ c.switchSet then
            match (s.net k).state with
            | .settled q =>
              if q = wanted k then { s.net k with commanded := none }
              else
                { state := .moving (wanted k) q, commanded := some (wanted k), travelTimer := 0,
                  lastTravel := (s.net k).lastTravel }
            | _ => { s.net k with commanded := some (wanted k) }
          else s.net k })

/-- The ramp arithmetic: a DROP component never grows and ends at 0; a CROSS component never exceeds the larger of its
ends, and ends at the target's component exactly; and a ramp between two vectors that are both within a power bound stays
within it at every step (R66, R70, R71). -/
def Obligations.Ramp_arithmetic_and_power : Prop :=
  (∀ (a : Int) (n k : Nat), k < n → (dropValue a n (k + 1)).natAbs ≤ (dropValue a n k).natAbs)
  ∧ (∀ (a : Int) (n : Nat), 0 < n → dropValue a n 0 = a ∧ dropValue a n n = 0)
  ∧ (∀ (a : Int) (n k : Nat), k ≤ n → 0 < n → 0 ≤ a → 0 ≤ dropValue a n k)
  ∧ (∀ (a b : Int) (n k : Nat), k ≤ n → 0 < n →
    (crossValue a b n k).natAbs ≤ max a.natAbs b.natAbs)
  ∧ (∀ (a b : Int) (n : Nat), 0 < n → crossValue a b n 0 = a ∧ crossValue a b n n = b)
  ∧ ∀ (a b : Vector Cpx 12) (bound n k : Nat), k ≤ n → 0 < n → powerOf a ≤ bound →
    (powerOf b ≤ bound → powerOf (tab fun t => crossWeight (a.get t) (b.get t) n k) ≤ bound)
    ∧ ∀ ramped : Tower → Bool,
      powerOf (tab fun t => if ramped t then dropWeight (a.get t) n k else a.get t) ≤ bound

/-- The last step of a drop to zero. A safe drop ends in SAFE with SAFE_ENTERED; an ABORT to zero ends in its prior
state with SHIFT_DONE and its commanded targets withdrawn. In both every live weight is (0, 0), the step timer is
stopped, the fallback flag is unchanged, and the queue is then examined (R41, R61, R77, R111). That a prior state of
STEADY, which R55 never joins to a target of none here, would end in NO_PATTERN is the model's choice, log entry 22. -/
def Obligations.Drop_to_zero_ends : Prop :=
  ∀ (s : State) (c : Context) (n : Nat), TickEvent.stepTimer ∈ s.due →
    s.shift.timer = { counter := 0, running := true } → s.shift.array = .shifting c → c.phase = .drop →
    c.target = none → c.stepTotal = some n → c.stepCount + 1 = n →
    let zeroed : State :=
      { s with
        due := s.due.erase .stepTimer
        shift := { s.shift with timer := { counter := s.settings.stepPeriod, running := false } }
        engine := { s.engine with live := tab fun _ => ⟨0, 0⟩ } }
    (∀ p r, c.cause = .safe → c.safeFor = some (p, r) →
      exec .stepTimerExpiry s = .next (examineQueue (raise (.safeEntered p r) (zeroed.setArray .safe))))
    ∧ (c.cause = .abort →
      exec .stepTimerExpiry s = .next
        (examineQueue (raise (.shiftDone none .abort c.verifyUsed)
          { zeroed with
            nets := tab fun k => { s.net k with commanded := none }
            shift :=
              { zeroed.shift with array := match c.prior with | .safe => .safe | _ => .noPattern } })))

/-- The last step of a CROSS writes the target's weights. A target with no tested entry then succeeds in the same event:
STEADY, the flag set exactly for a FALLBACK, SHIFT_DONE with no windows used, the duty STEADY with every monitor record
UNTESTED, and the queue is examined; a target with tested entries begins VERIFY with a window, or waits for the end of
mute (R61, R70, R72, R73, R84, R85). -/
def Obligations.Cross_ends : Prop :=
  ∀ (s : State) (c : Context) (n : Nat) (p : Slot), TickEvent.stepTimer ∈ s.due →
    s.shift.timer = { counter := 0, running := true } → s.shift.array = .shifting c → c.phase = .cross →
    c.target = some p → c.stepTotal = some n → c.stepCount + 1 = n →
    let crossed : State :=
      { s with
        due := s.due.erase .stepTimer
        shift := { s.shift with timer := { counter := s.settings.stepPeriod, running := false } }
        engine := { s.engine with live := tab fun k => if s.zeroHold k then ⟨0, 0⟩ else c.endB.get k } }
    ((s.record p).tested = false →
      exec .stepTimerExpiry s = .next (examineQueue (raise (.shiftDone (some p) c.cause 0)
        { crossed with
          shift := { crossed.shift with array := .steady p, fallbackFlag := c.cause == .fallback }
          nets := tab fun k => { s.net k with commanded := none }
          monitor :=
            { duty := .steady p
              window := none
              records := tab fun k =>
                { s.monitor.records.get k with deviation := 0, outcome := .untested, failCount := 0, out := false } } })))
    ∧ ((s.record p).tested = true →
      exec .stepTimerExpiry s = .next
        { crossed with
          shift :=
            { crossed.shift with
              array := .shifting { c with phase := .verify, stepCount := 0, stepTotal := none, verifyUsed := 0 } }
          monitor :=
            { s.monitor with duty := .verify p, window := if s.mute then none else freshWindow s p } })

/-! ### Networks and towers (chapters 3 and 7) -/

/-- SWITCH ends where every tower left in the switch set is satisfied: CROSS begins with the target's ramp length, the
live weights as start vector and the target's effective weights as end vector, and the step timer starts. At a tick at
which the switch wait is at or above TRAVEL_LIMIT, every tower of the set that is neither satisfied nor MOVING leaves
it where the target drives none of them. Where it drives one, the transition ends where it stands with SHIFT_FAILED
JAMMED at the first such tower, and the failure is handled (R41, R68, R69, R70, R78). That a step timer stopped with its
counter at 0 is reloaded is the model's choice, log entry 20. -/
def Obligations.Switch_wait_timeout : Prop :=
  (∀ (s : State) (c : Context) (p : Slot) (h : Header), s.shift.array = .shifting c → c.phase = .switch →
    c.target = some p → (s.record p).header = some h →
    endSwitchIfDone s =
      if c.switchSet.all (fun k => (s.net k).state == .settled ((s.record p).wanted k)) then
        { s with
          shift :=
            { s.shift with
              array := .shifting
                { c with
                  phase := .cross, stepCount := 0, stepTotal := some h.ramp, startA := s.engine.live
                  endB := tab fun k => (s.record p).weightFor k }
              timer := { counter := s.settings.stepPeriod, running := true } } }
      else s)
  ∧ ∀ (s : State) (c : Context) (p : Slot), TickEvent.switchWait ∈ s.due → s.shift.array = .shifting c →
    c.phase = .switch → c.target = some p → s.settings.travelLimit ≤ c.switchWait →
    let stuck := fun k : Tower =>
      (s.net k).state != .settled ((s.record p).wanted k) && !(s.net k).state.isMoving
    ((∀ k ∈ c.switchSet, stuck k = true → (s.record p).drives k = false) →
      exec .switchWaitTimeout s = .next (endSwitchIfDone
        { s with
          due := s.due.erase .switchWait
          nets := tab fun k => if k ∈ c.switchSet ∧ stuck k = true then { s.net k with commanded := none } else s.net k
          shift :=
            { s.shift with array := .shifting { c with switchSet := c.switchSet.filter fun k => !stuck k } } }))
    ∧ ∀ k : Tower, c.switchSet.find? (fun j => stuck j && (s.record p).drives j) = some k →
      ∃ set : List Tower, set.Sublist c.switchSet ∧ exec .switchWaitTimeout s = .next
        (handleFailure
          { kind := .transition, pattern := p, reason := .jammed, tower := some k, cause := some c.cause,
            source := c.source, prior := c.prior }
          (raise (.shiftFailed (some p) .jammed none)
            { s with
              due := s.due.erase .switchWait
              nets := tab fun j => { s.net j with commanded := none }
              monitor := { s.monitor with duty := .none, window := none }
              shift :=
                { s.shift with
                  array := .shifting { c with switchSet := set }
                  timer :=
                    { counter := if s.shift.timer.counter = 0 then s.settings.stepPeriod else s.shift.timer.counter
                      running := false } } }))

/-- A travel timer that reaches TRAVEL_LIMIT leaves the record JAMMED, with no commanded target and TRAVEL_LIMIT as the
last travel time, and adds JAMMED; a silence timer that reaches SILENCE_TIME stops, the tower becomes not present, and
SILENT is added (R47, R122). -/
def Obligations.Tower_limits_reached : Prop :=
  ∀ (s : State) (k : Tower),
    (TickEvent.travel k ∈ s.due → (s.net k).state.isMoving = true → s.settings.travelLimit ≤ (s.net k).travelTimer →
      exec (.travelLimitReached (k.val + 1)) s = .next
        (addCause k .jammed
          ((s.setDue (s.due.erase (.travel k))).setNet k
            { state := .jammed, commanded := none, travelTimer := (s.net k).travelTimer,
              lastTravel := s.settings.travelLimit })))
    ∧ (TickEvent.silence k ∈ s.due → (s.tower k).silenceRunning = true →
      s.settings.silenceTime ≤ (s.tower k).silenceTimer →
      exec (.silenceTimeReached (k.val + 1)) s = .next
        (addCause k .silent
          ((s.setDue (s.due.erase (.silence k))).setTower k
            { s.tower k with silenceRunning := false, present := false })))

/-- Adding a cause: one already held changes nothing (the model's reading, log entry 6); a further one raises
TOWER_FAULT alone; a first one also forces the weight to (0, 0), withdraws the held target of a move, and reaches the
Shift Controller. Nothing more follows at rest and in STEADY where the live pattern does not drive the tower; in a
drop to zero the start weight becomes (0, 0); a live pattern that drives it fails, and so does a target that drives
it, with SHIFT_FAILED; a tower that the target does not drive leaves the switch set, which may end SWITCH (R26, R41,
R48, R68, R74, R78, R102, R123). That a step timer stopped with its counter at 0 is reloaded is the model's choice, log
entry 20. -/
def Obligations.Cause_added : Prop :=
  ∀ (k : Tower) (u : UnusableCause) (s : State),
    let noted := raise (.towerFault k u) (s.setTower k { s.tower k with causes := (s.tower k).causes.add u })
    let released := if (s.net k).state.isMoving then noted.setNet k { s.net k with commanded := none } else noted
    let forced := released.setLive (s.engine.live.set k ⟨0, 0⟩)
    let reason := if u = .jammed ∨ u = .wrongPosition then Reason.jammed else Reason.towerFault
    let stopped : StepTimer :=
      { counter := if s.shift.timer.counter = 0 then s.settings.stepPeriod else s.shift.timer.counter, running := false }
    (((addCause k u s).tower k).causes.has u = true)
    ∧ ((s.tower k).causes.has u = true → addCause k u s = s)
    ∧ ((s.tower k).causes.any = true → (s.tower k).causes.has u = false → addCause k u s = noted)
    ∧ ((s.tower k).causes.any = false →
      (s.atRest = true → addCause k u s = forced)
      ∧ (∀ p, s.shift.array = .steady p →
        ((s.record p).drives k = false → addCause k u s = forced)
        ∧ ((s.record p).drives k = true →
          addCause k u s = handleFailure
            { kind := .steady, pattern := p, reason := reason, tower := some k, cause := none, source := some p,
              prior := .steady } forced))
      ∧ ∀ c, s.shift.array = .shifting c →
        let shorn := { c with startA := c.startA.set k ⟨0, 0⟩ }
        (c.target = none → addCause k u s = forced.setArray (.shifting shorn))
        ∧ ∀ p, c.target = some p →
          ((s.record p).drives k = true →
            addCause k u s = handleFailure
              { kind := .transition, pattern := p, reason := reason, tower := some k, cause := some c.cause,
                source := c.source, prior := c.prior }
              (raise (.shiftFailed (some p) reason none)
                { forced with
                  nets := tab fun j => { forced.net j with commanded := none }
                  monitor := { s.monitor with duty := .none, window := none }
                  shift := { s.shift with array := .shifting shorn, timer := stopped } }))
          ∧ ((s.record p).drives k = false →
            addCause k u s = endSwitchIfDone
              (if k ∈ c.switchSet then
                (forced.setNet k { s.net k with commanded := none }).setArray
                  (.shifting { shorn with switchSet := c.switchSet.filter fun j => j != k })
              else forced.setArray (.shifting shorn))))

/-- What a network report does, by the state its record is in; what every settle report does with the commanded target,
by R39's four rows, the last of which tells the Shift Controller that the held move was refused; and the entry into
DRIFTING, which forces the weight to (0, 0). A refused held move of a tower in the switch set fails a transition whose
target drives it and takes the tower out of the set otherwise; a tower outside the set changes nothing (R26, R37, R39,
R41, R42, R45, R46, R49, R50, R68, R74, R110). Each settle may end SWITCH, and outside SWITCH it cannot. That a
step timer stopped with its counter at 0 is reloaded is the model's choice, log entry 20. -/
def Obligations.Network_report_rules : Prop :=
  (∀ (k : Tower) (s : State) (p q r : Pos),
    ((s.net k).state = .settled p → networkReport k (.settled p) s = s)
    ∧ ((s.net k).state = .settled p → r ≠ p →
      networkReport k (.settled r) s =
        settleReported k r (addCause k .upset
          ((s.setNet k { s.net k with state := .settled r }).setLive (s.engine.live.set k ⟨0, 0⟩))))
    ∧ ((s.net k).state = .settled p →
      networkReport k .travel s = addCause k .upset (enterDrifting k s))
    ∧ ((s.net k).state = .moving q p → s.settings.travelWarn < (s.net k).travelTimer →
      networkReport k (.settled q) s =
        settleReported k q (raise (.contactorSlow k (s.net k).travelTimer)
          (s.setNet k { s.net k with state := .settled q, lastTravel := (s.net k).travelTimer })))
    ∧ ((s.net k).state = .moving q p → (s.net k).travelTimer ≤ s.settings.travelWarn →
      networkReport k (.settled q) s =
        settleReported k q (s.setNet k { s.net k with state := .settled q, lastTravel := (s.net k).travelTimer }))
    ∧ ((s.net k).state = .moving q p → p ≠ q → networkReport k (.settled p) s = s)
    ∧ ((s.net k).state = .moving q p → r ≠ q → r ≠ p →
      networkReport k (.settled r) s =
        settleReported k r (addCause k .wrongPosition
          (s.setNet k { s.net k with state := .settled r, lastTravel := (s.net k).travelTimer })))
    ∧ ((s.net k).state = .unknown ∨ (s.net k).state = .jammed ∨ (s.net k).state = .drifting →
      networkReport k (.settled r) s = settleReported k r (s.setNet k { s.net k with state := .settled r }))
    ∧ ((s.net k).state = .unknown → networkReport k .travel s = enterDrifting k s)
    ∧ ((s.net k).state.isMoving = true ∨ (s.net k).state = .jammed ∨ (s.net k).state = .drifting →
      networkReport k .travel s = s))
  ∧ (∀ (k : Tower) (s : State) (q r : Pos),
    let released := s.setNet k { s.net k with commanded := none }
    ((s.net k).commanded = none → settleReported k r s = endSwitchIfDone s)
    ∧ ((s.net k).commanded = some r → settleReported k r s = endSwitchIfDone released)
    ∧ ((s.net k).commanded = some q → q ≠ r →
      ((s.tower k).lockout = false → (s.tower k).causes.any = false → s.live k = ⟨0, 0⟩ →
        settleReported k r s = endSwitchIfDone
          (s.setNet k
            { state := .moving q r, commanded := some q, travelTimer := 0, lastTravel := (s.net k).lastTravel }))
      ∧ ((s.tower k).lockout = true ∨ (s.tower k).causes.any = true ∨ s.live k ≠ ⟨0, 0⟩ →
        settleReported k r s = endSwitchIfDone (moveRefused k released))))
  ∧ (∀ (k : Tower) (s : State),
    let drifting := (s.setNet k { s.net k with state := .drifting }).setLive (s.engine.live.set k ⟨0, 0⟩)
    ((∀ c, s.shift.array = .shifting c → c.target ≠ none) → enterDrifting k s = drifting)
    ∧ ∀ c, s.shift.array = .shifting c → c.target = none →
      enterDrifting k s = drifting.setArray (.shifting { c with startA := c.startA.set k ⟨0, 0⟩ }))
  ∧ (∀ (k : Tower) (s : State),
    ((∀ c, s.shift.array = .shifting c → k ∉ c.switchSet) → moveRefused k s = s)
    ∧ ∀ c, s.shift.array = .shifting c → k ∈ c.switchSet →
      let shorn := { c with startA := c.startA.set k ⟨0, 0⟩ }
      let reason :=
        if (s.tower k).causes.jammed = true ∨ (s.tower k).causes.wrongPosition = true then Reason.jammed
        else Reason.towerFault
      (c.target = none → moveRefused k s = s.setArray (.shifting shorn))
      ∧ ∀ p, c.target = some p →
        ((s.record p).drives k = true →
          moveRefused k s = handleFailure
            { kind := .transition, pattern := p, reason := reason, tower := some k, cause := some c.cause,
              source := c.source, prior := c.prior }
            (raise (.shiftFailed (some p) reason none)
              { s with
                nets := tab fun j => { s.net j with commanded := none }
                monitor := { s.monitor with duty := .none, window := none }
                shift :=
                  { s.shift with
                    array := .shifting shorn
                    timer :=
                      { counter := if s.shift.timer.counter = 0 then s.settings.stepPeriod else s.shift.timer.counter
                        running := false } } }))
        ∧ ((s.record p).drives k = false →
          moveRefused k s = endSwitchIfDone
            ((s.setNet k { s.net k with commanded := none }).setArray
              (.shifting { shorn with switchSet := c.switchSet.filter fun j => j != k }))))
  ∧ ∀ s : State, (∀ c, s.shift.array = .shifting c → c.phase = .switch → c.target = none) → endSwitchIfDone s = s

/-- The answers to a move request, from the top of R38's table down, with the move that STARTED begins (R38, R40). -/
def Obligations.Move_request_answers : Prop :=
  ∀ (k : Tower) (q p d : Pos) (s : State),
    (s.outOfService k = true ∨ s.settings.arraySize ≤ k.val →
      requestMove k q s = (s.setNet k { s.net k with commanded := none }, .refused))
    ∧ (s.outOfService k = false → k.val < s.settings.arraySize →
      ((s.net k).state = .settled q → requestMove k q s = (s.setNet k { s.net k with commanded := none }, .atPosition))
      ∧ ((s.net k).state = .settled p → p ≠ q → s.live k = ⟨0, 0⟩ →
        requestMove k q s =
          (s.setNet k
            { state := .moving q p, commanded := some q, travelTimer := 0, lastTravel := (s.net k).lastTravel },
            .started))
      ∧ ((s.net k).state = .settled p → p ≠ q → s.live k ≠ ⟨0, 0⟩ → requestMove k q s = (s, .refused))
      ∧ ((s.net k).state = .moving d p ∨ (s.net k).state = .unknown ∨ (s.net k).state = .drifting →
        requestMove k q s = (s.setNet k { s.net k with commanded := some q }, .held)))

/-- A Tower Return Frame is taken slot by slot in ascending tower order, or counted as one return frame error where its
check fails. An empty slot and a slot above ARRAY_SIZE change nothing; a filled one makes the tower present, restarts
its silence timer, stores its reports, adds PA_FAULT where it reports a fault, and passes its network report and then its
phasor on. A phasor is counted where the window is COLLECTING, the tower is tested, SETTLED and not yet complete, and is
ignored otherwise; the report that makes the last tower complete completes the window, and what that does is what the
window's limit would do with the same window (R86, R87, R117, R118, R119, R121). -/
def Obligations.Tower_return_frame_taken : Prop :=
  (∀ (s : State) (bytes : List Byte), s.due = [] → decodeTowerReturn bytes = none →
    exec (.towerReturnFrame bytes) s =
      .next { s with link := { s.link with returnErrors := bump s.link.returnErrors } })
  ∧ (∀ (s : State) (bytes : List Byte) (slots : List (Tower × Option SlotReport)), s.due = [] →
    decodeTowerReturn bytes = some slots →
    exec (.towerReturnFrame bytes) s = .next (slots.foldl (fun x y => returnSlot y.1 y.2 x) s)
      ∧ slots.map Prod.fst = allTowers)
  ∧ (∀ (s : State) (k : Tower), returnSlot k none s = s)
  ∧ (∀ (s : State) (k : Tower) (r : SlotReport), s.settings.arraySize ≤ k.val → returnSlot k (some r) s = s)
  ∧ (∀ (s : State) (k : Tower) (r : SlotReport), k.val < s.settings.arraySize →
    let stored := s.setTower k
      { s.tower k with
        present := true, paFault := r.paFault, silenceTimer := 0, silenceRunning := true, lastSlot := some r }
    returnSlot k (some r) s =
      phasorReport k r.phasor
        (networkReport k r.network (if r.paFault then addCause k .paFault stored else stored)))
  ∧ ∀ (s : State) (k : Tower),
    phasorReport k none s = s
    ∧ ∀ z : Cpx,
      (s.monitor.window = none → phasorReport k (some z) s = s)
      ∧ ∀ w, s.monitor.window = some w →
        let a := w.acc.get k
        let counted : Window :=
          { w with acc := w.acc.set k { count := a.count + 1, sum := ⟨a.sum.re + z.re, a.sum.im + z.im⟩ } }
        (w.tested k = false ∨ (∀ q, (s.net k).state ≠ .settled q) ∨ w.reports ≤ a.count →
          phasorReport k (some z) s = s)
        ∧ (w.tested k = true → (∃ q, (s.net k).state = .settled q) → a.count < w.reports →
          ((∃ j, w.tested j = true ∧ (counted.acc.get j).count < w.reports) →
            phasorReport k (some z) s = s.setWindow (some counted))
          ∧ ((∀ j, w.tested j = true → w.reports ≤ (counted.acc.get j).count) →
            exec .windowLimitReached
                ((s.setWindow (some { counted with timer := w.limit })).setDue (.windowLimit :: s.due)) =
              .next (phasorReport k (some z) s)))

/-! ### Failures (chapter 6) -/

/-- Fallback resolution walks the links from the failed pattern and finds the first one of at most 8 that is not the
failed pattern and is READY and usable; it counts the links examined. Pattern and count are written into the last
failure record of the failure that asked for them (R106). -/
def Obligations.Fallback_resolution : Prop :=
  (∀ (f : Failure) (s : State), f.cause ≠ some .fallback → s.shift.fallbackFlag = false → s.NetworkLaw →
    ((handleFailure f s).shift.lastFailure.fallback, (handleFailure f s).shift.lastFailure.links)
      = resolve s f.pattern)
  ∧ ∀ (s : State) (p : Slot),
    let accepted := fun f : Slot => f ≠ p ∧ (s.record f).isReady = true ∧ s.usable f = true
    (∀ f n, resolve s p = (some f, n) ↔
      (1 ≤ n ∧ n ≤ 8) ∧ fallbackWalk s p n = some f ∧ accepted f
        ∧ ∀ m g, 1 ≤ m → m < n → fallbackWalk s p m = some g → ¬accepted g)
    ∧ ∀ n, resolve s p = (none, n) ↔
      (∀ m g, 1 ≤ m → m ≤ 8 → fallbackWalk s p m = some g → ¬accepted g)
        ∧ n = ((List.range 8).filter fun i =>
          ((fallbackWalk s p i).bind fun q => (s.record q).header).isSome).length

/-- The handling of a failure: the second-failure test, then resolution, then a FALLBACK transition or a safe drop, and
the last failure record; and what a safe drop sets up. The FALLBACK order takes its place at the head of the queue, whose
tail order is discarded with ORDER_DISCARDED where the queue is full; its transition begins as any other does (what that is
Order_rules says), and FALLBACK_STARTED is raised (R59, R63, R103, R105, R107, R108, R109, R111). -/
def Obligations.Failure_handling : Prop :=
  (∀ (f : Failure) (s : State),
    let record := fun (links : Nat) (g : Option Slot) (drop : Option Reason) =>
      ({ kind := f.kind, pattern := some f.pattern, reason := some f.reason, tower := f.tower, cause := f.cause,
         flag := some s.shift.fallbackFlag, links := links,
         outcome := some (if g.isSome then .fallback else .safeDrop), fallback := g, dropReason := drop } : LastFailure)
    (f.cause = some .fallback ∨ s.shift.fallbackFlag = true →
      handleFailure f s =
        safeDrop f.pattern .secondFailure f.prior (s.setLastFailure (record 0 none (some .secondFailure))))
    ∧ (f.cause ≠ some .fallback → s.shift.fallbackFlag = false → ∀ n, resolve s f.pattern = (none, n) →
      handleFailure f s =
        safeDrop f.pattern .noFallback f.prior (s.setLastFailure (record n none (some .noFallback))))
    ∧ (f.cause ≠ some .fallback → s.shift.fallbackFlag = false → s.NetworkLaw → ∀ g n,
      resolve s f.pattern = (some g, n) →
      let recorded := s.setLastFailure (record n (some g) none)
      let roomy :=
        if s.shift.queue.length < 4 then recorded
        else
          match s.shift.queue.getLast? with
          | some o =>
            (raise (.orderDiscarded o.target o.cause o.origin) recorded).setQueue s.shift.queue.dropLast
          | none => recorded
      handleFailure f s =
          raise (.fallbackStarted f.pattern g f.reason)
            (beginTransition
              { source := f.source, prior := f.prior, target := g, cause := .fallback, origin := .pattern f.pattern }
              roomy)
        ∧ ∃ c, (handleFailure f s).shift.array = .shifting c ∧ c.target = some g ∧ c.cause = .fallback
        ∧ c.origin = some (.pattern f.pattern) ∧ c.source = f.source ∧ c.prior = f.prior
        ∧ (handleFailure f s).shift.lastFailure = record n (some g) none
        ∧ (handleFailure f s).shift.fallbackFlag = false
        ∧ (handleFailure f s).shift.queue =
          (if s.shift.queue.length < 4 then s.shift.queue else s.shift.queue.dropLast)
        ∧ (handleFailure f s).engine = s.engine
        ∧ (handleFailure f s).noticeSource 3 =
          (s.noticeSource 3).raised (.fallbackStarted f.pattern g f.reason)))
  ∧ ∀ (p : Slot) (r : Reason) (prior : Prior) (s : State),
    let flushed := (s.shift.queue.foldl (fun x o => raise (.orderDiscarded o.target o.cause o.origin) x) s)
    let dropped : State :=
      { flushed with
        monitor := { s.monitor with duty := .none, window := none }
        shift := { s.shift with queue := [], timer := { counter := s.settings.stepPeriod, running := true } } }
    safeDrop p r prior s =
      if s.allZero then
        raise (.safeEntered p r)
          (({ dropped with
              shift :=
                { dropped.shift with timer := { counter := s.settings.stepPeriod, running := false } } }).setArray .safe)
      else
        dropped.setArray (.shifting
          { source := none, prior := prior, target := none, cause := .safe, origin := none, phase := .drop,
            switchSet := [], stepCount := 0, stepTotal := some s.settings.dropLength, startA := s.engine.live,
            endB := Vector.replicate 12 ⟨0, 0⟩, switchWait := 0, verifyUsed := 0, safeFor := some (p, r) })

/-! ### The Array Monitor (chapter 5) -/

/-- A window begins with the pattern as it stands: its reference tower, the tested set of the towers with a nonzero
tolerance and the reference, the expected phasors and tolerances of the tested towers other than the reference, W and the
window limit from the settings, and every timer and sum at 0. A duty over a pattern with no tested entry begins none and
marks every record UNTESTED. A restart, the setting of a duty and the end of mute begin a window only where a duty stands
and mute is not active (R84, R85, R88, R89). -/
def Obligations.Window_begins : Prop :=
  (∀ (s : State) (p : Slot) (h : Header) (r : Tower), (s.record p).header = some h → h.reference = some r →
    (∃ e ∈ (s.record p).entries, e.tolerance ≠ 0) →
    ∃ w, freshWindow s p = some w ∧ w.pattern = p ∧ w.reference = r ∧ w.reports = s.settings.monWindow
      ∧ w.limit = s.settings.windowLimit ∧ w.timer = 0
      ∧ (∀ k : Tower, w.acc.get k = { count := 0, sum := ⟨0, 0⟩ })
      ∧ (∀ k : Tower, w.tested k = true ↔ k = r ∨ ∃ e ∈ (s.record p).entries, e.tower = k ∧ e.tolerance ≠ 0)
      ∧ w.tests =
        ((s.record p).entries.filter fun e => decide (e.tolerance ≠ 0 ∧ e.tower ≠ r)).map fun e =>
          { tower := e.tower, expected := e.expected, tolerance := e.tolerance })
  ∧ (∀ (s : State) (p : Slot), (∀ e ∈ (s.record p).entries, e.tolerance = 0) → freshWindow s p = none)
  ∧ (∀ s : State,
    restartWindow s =
      { s with
        monitor :=
          { s.monitor with
            window :=
              match s.monitor.duty with
              | .none => none
              | .steady p | .verify p => if s.mute = true then none else freshWindow s p } })
  ∧ ∀ (s : State) (p : Slot),
    let window := if s.mute = true then none else freshWindow s p
    ((∃ e ∈ (s.record p).entries, e.tolerance ≠ 0) →
      setSteadyDuty p s =
        { s with monitor := { duty := .steady p, window := window, records := s.monitor.records } })
    ∧ ((∀ e ∈ (s.record p).entries, e.tolerance = 0) →
      setSteadyDuty p s =
        { s with
          monitor :=
            { duty := .steady p
              window := none
              records := tab fun k =>
                { average := (s.monitor.records.get k).average, deviation := 0, outcome := .untested, failCount := 0,
                  out := false, windows := (s.monitor.records.get k).windows } } })
    ∧ setVerifyDuty p s =
      { s with monitor := { duty := .verify p, window := window, records := s.monitor.records } }

/-- The averaged phasor: the sum divided by W and rounded to the nearest integer, ties toward positive, within the range
of the reports; a short tower has none, and a window begins with its sums discarded (R91). -/
def Obligations.Averaging_rule : Prop :=
  (∀ (n : Int) (w : Nat), 0 < w → -(w : Int) < 2 * (w * roundTiesUp n w - n) ∧ 2 * (w * roundTiesUp n w - n) ≤ w)
  ∧ (∀ (n : Int) (w : Nat), 0 < w → -32768 * (w : Int) ≤ n → n ≤ 32767 * (w : Int) → InSigned16 (roundTiesUp n w))
  ∧ roundTiesUp 20402 4 = 5101 ∧ roundTiesUp (-19602) 4 = -4900 ∧ roundTiesUp (-19603) 4 = -4901
  ∧ (∀ n : Int, roundTiesUp n 1 = n)
  ∧ (∀ (w : Window) (k : Tower), w.reports ≤ (w.acc.get k).count →
    w.average k = ⟨roundTiesUp (w.acc.get k).sum.re w.reports, roundTiesUp (w.acc.get k).sum.im w.reports⟩)
  ∧ (∀ (w : Window) (k : Tower), (w.acc.get k).count < w.reports → w.average k = ⟨0, 0⟩)
  ∧ (∀ (s : State) (w : Window) (steady : Bool) (k : Tower), w.tested k = true →
    (recordAfter s w steady k).average = w.average k)
  ∧ ∀ (s : State) (p : Slot) (w : Window) (k : Tower), freshWindow s p = some w →
    w.acc.get k = { count := 0, sum := ⟨0, 0⟩ }

/-- How each tower of a window is judged: the reference is PASS where it is complete and SILENT where it is short; with a
reference that is short or averages (0, 0) every other tested tower is REF_SILENT; otherwise a short one is SILENT and a
complete one is judged by the tolerance test, with the deviation it records. A completed window writes the outcome, the
deviation and the average, which is (0, 0) for a short tower (R92, R93). -/
def Obligations.Tolerance_rule : Prop :=
  (∀ x r : Cpx, expectedMeasure x r = ⟨x.re * r.re - x.im * r.im, x.re * r.im + x.im * r.re⟩)
  ∧ (∀ x r : Cpx, InWeight x.re → InWeight x.im → InSigned16 r.re → InSigned16 r.im →
    (-4294967296 ≤ (expectedMeasure x r).re ∧ (expectedMeasure x r).re < 4294967296)
      ∧ -4294967296 ≤ (expectedMeasure x r).im ∧ (expectedMeasure x r).im < 4294967296)
  ∧ (∀ m e : Cpx, difference m e = ⟨16384 * m.re - e.re, 16384 * m.im - e.im⟩)
  ∧ (∀ x r : Cpx, x ≠ ⟨0, 0⟩ → r ≠ ⟨0, 0⟩ → expectedMeasure x r ≠ ⟨0, 0⟩)
  ∧ (∀ (w : Window) (e : TestEntry), w.complete w.reference = true → w.average w.reference ≠ ⟨0, 0⟩ →
    w.complete e.tower = true →
    let expected := expectedMeasure e.expected (w.average w.reference)
    let d := difference (w.average e.tower) expected
    let dd : Int := d.re * d.re + d.im * d.im
    let ee : Int := expected.re * expected.re + expected.im * expected.im
    let outcome := (w.judgeTested e).1
    let deviation := (w.judgeTested e).2
    (outcome = .pass ↔ 65536 * dd ≤ (e.tolerance : Int) * e.tolerance * ee)
    ∧ (outcome = .pass ∨ outcome = .fail)
    ∧ deviation ≤ 255
    ∧ (∀ k : Nat, k < deviation → ¬65536 * dd ≤ (k : Int) * k * ee)
    ∧ ((∃ k : Nat, k ≤ 255 ∧ 65536 * dd ≤ (k : Int) * k * ee) →
      65536 * dd ≤ (deviation : Int) * deviation * ee ∧ (outcome = .pass ↔ deviation ≤ e.tolerance))
    ∧ ((∀ k : Nat, k ≤ 255 → ¬65536 * dd ≤ (k : Int) * k * ee) →
      deviation = 255 ∧ (e.tolerance ≤ 255 → outcome = .fail))
    ∧ (d = ⟨0, 0⟩ → deviation = 0 ∧ outcome = .pass))
  ∧ ∀ (w : Window) (k : Tower),
    (k = w.reference →
      (w.reports ≤ (w.acc.get k).count → w.judge k = (.pass, 0))
      ∧ ((w.acc.get k).count < w.reports → w.judge k = (.silent, 255)))
    ∧ (∀ e, k ≠ w.reference → (w.tests.find? fun e => e.tower == k) = some e →
      ((w.acc.get w.reference).count < w.reports ∨ w.average w.reference = ⟨0, 0⟩ → w.judge k = (.refSilent, 255))
      ∧ (w.reports ≤ (w.acc.get w.reference).count → w.average w.reference ≠ ⟨0, 0⟩ →
        ((w.acc.get k).count < w.reports → w.judge k = (.silent, 255))
        ∧ (w.reports ≤ (w.acc.get k).count → w.judge k = w.judgeTested e)))
    ∧ (k ≠ w.reference → (∀ e ∈ w.tests, e.tower ≠ k) → w.judge k = (.untested, 0) ∧ w.tested k = false)
    ∧ ((w.acc.get k).count < w.reports → w.average k = ⟨0, 0⟩)
    ∧ ∀ (s : State) (steady : Bool), w.tested k = true →
      (recordAfter s w steady k).outcome = (w.judge k).1 ∧ (recordAfter s w steady k).deviation = (w.judge k).2
        ∧ (recordAfter s w steady k).average = w.average k

/-- A STEADY window that reaches its limit is judged: each tower of the tested set receives its average, deviation and
outcome, its failure count and out flag move, its window counter rises; every other record is marked UNTESTED; and
MONITOR_OUT is raised for each tower that went out, in ascending order. With no out event, or with the live pattern's
option off, the next window begins at once unless mute is active; otherwise the lowest tower that went out fails the
live pattern with MONITOR_OUT (R87, R94, R95, R96, R98, R102). -/
def Obligations.Steady_window_judged : Prop :=
  ∀ (s : State) (w : Window) (p : Slot) (h : Header), TickEvent.windowLimit ∈ s.due → s.monitor.window = some w →
    w.limit ≤ w.timer → s.monitor.duty = .steady p → (s.record p).header = some h →
    let count := fun k : Tower =>
      if (w.judge k).1 = .pass then 0
      else if (s.monitor.records.get k).failCount < 15 then (s.monitor.records.get k).failCount + 1
      else (s.monitor.records.get k).failCount
    let outs := allTowers.filter fun k =>
      w.tested k && (w.judge k).1 != .pass && !(s.monitor.records.get k).out
        && decide (s.settings.failLimit ≤ count k)
    let records : Vector MonRecord 12 := tab fun k =>
      if w.tested k then
        { average := w.average k, deviation := (w.judge k).2, outcome := (w.judge k).1, failCount := count k,
          out := (w.judge k).1 != .pass && ((s.monitor.records.get k).out || decide (k ∈ outs)),
          windows := ((s.monitor.records.get k).windows + 1) % 65536 }
      else { s.monitor.records.get k with deviation := 0, outcome := .untested, failCount := 0, out := false }
    let judged : State :=
      { s with
        due := s.due.erase .windowLimit
        monitor := { duty := .steady p, window := none, records := records }
        notices := (outs.foldl (fun x k => raise (.monitorOut k (w.judge k).2) x) s).notices }
    (outs = [] ∨ h.monitorFallback = false →
      exec .windowLimitReached s = .next (judged.setWindow (if s.mute then none else freshWindow s p)))
    ∧ ∀ k ks, outs = k :: ks → h.monitorFallback = true →
      exec .windowLimitReached s = .next (handleFailure
        { kind := .steady, pattern := p, reason := .monitorOut, tower := some k, cause := none, source := some p,
          prior := .steady } judged)

/-- A VERIFY window that reaches its limit answers the Shift Controller, which counts it. PASS succeeds and the queue is
examined; FAIL asks for another window below VERIFY_TRIES, and otherwise the transition ends where it stands with
SHIFT_FAILED VERIFY_FAIL, naming the lowest tower that did not pass, and the failure is handled. The records take their
averages, outcomes and counts, and no out flag is set in VERIFY (R72, R73, R78, R84, R95, R96, R97). That a step timer
stopped with its counter at 0 is reloaded is the model's choice, log entry 20. -/
def Obligations.Verify_window_answered : Prop :=
  ∀ (s : State) (w : Window) (c : Context) (p : Slot), TickEvent.windowLimit ∈ s.due → s.monitor.window = some w →
    w.limit ≤ w.timer → s.monitor.duty = .verify p → s.shift.array = .shifting c → c.phase = .verify →
    c.target = some p → (s.record p).tested = true →
    let failed := allTowers.filter fun k => w.tested k && (w.judge k).1 != .pass
    let records : Vector MonRecord 12 := tab fun k =>
      let r := s.monitor.records.get k
      if w.tested k then
        { average := w.average k, deviation := (w.judge k).2, outcome := (w.judge k).1,
          failCount := if (w.judge k).1 = .pass then 0 else if r.failCount < 15 then r.failCount + 1 else r.failCount,
          out := (w.judge k).1 != .pass && r.out, windows := (r.windows + 1) % 65536 }
      else { r with deviation := 0, outcome := .untested, failCount := 0, out := false }
    let next : Option Window := if s.mute then none else freshWindow s p
    let stopped : StepTimer :=
      { counter := if s.shift.timer.counter = 0 then s.settings.stepPeriod else s.shift.timer.counter, running := false }
    let counted : State :=
      { s with
        due := s.due.erase .windowLimit
        monitor := { duty := .none, window := none, records := records }
        shift := { s.shift with array := .shifting { c with verifyUsed := c.verifyUsed + 1 } } }
    (failed = [] →
      exec .windowLimitReached s = .next (examineQueue (raise (.shiftDone (some p) c.cause (c.verifyUsed + 1))
        { counted with
          monitor := { duty := .steady p, window := next, records := records }
          nets := tab fun k => { s.net k with commanded := none }
          shift :=
            { s.shift with
              array := .steady p, timer := stopped
              fallbackFlag := c.cause == .fallback } })))
    ∧ (failed ≠ [] → c.verifyUsed + 1 < s.settings.verifyTries →
      exec .windowLimitReached s =
        .next { counted with monitor := { duty := .verify p, window := next, records := records } })
    ∧ ∀ k ks, failed = k :: ks → s.settings.verifyTries ≤ c.verifyUsed + 1 →
      exec .windowLimitReached s = .next (handleFailure
        { kind := .transition, pattern := p, reason := .verifyFail, tower := some k, cause := some c.cause,
          source := c.source, prior := c.prior }
        (raise (.shiftFailed (some p) .verifyFail (some (k, (w.judge k).1, (w.judge k).2)))
          { counted with
            nets := tab fun j => { s.net j with commanded := none }
            shift := { counted.shift with timer := stopped } }))

/-! ### Drive sources (chapter 8) -/

/-- A Sample Frame sets its port's age to 0 and makes it present. From the owner it makes a LOST owner LIVE and is
pushed; from the other port it takes over a LOST owner in AUTO where it is not barred, or bars itself by a claim, or is
discarded and counted (R131, R133, R135). -/
def Obligations.Sample_frame_taken : Prop :=
  ∀ (s : State) (p : Port) (x : Cpx) (claim : Bool), s.due = [] → (s.port p).assembly = .idle →
    InSigned16 x.re → InSigned16 x.im →
    let heard := s.setPort p { s.port p with age := 0, present := true }
    let discarded := bump (s.port p).discarded
    exec (.sampleFrame p (encodeSourceFrame (.sample x claim))) s = .next (
      if p = s.selector.owner then
        { heard with
          selector := { s.selector with condition := .live }
          buffer := s.buffer.push x }
      else if s.selector.condition = .lost ∧ s.selector.mode = .auto ∧ (s.port p).barred = false then
        (raise (.changeover p)
          { heard with
            selector := { s.selector with owner := p, condition := .live }
            buffer := s.buffer.flush.push x })
      else if claim = true ∧ (s.port p).barred = false then
        raise (.sourceContention p)
          (s.setPort p { s.port p with age := 0, present := true, barred := true, discarded := discarded })
      else s.setPort p { s.port p with age := 0, present := true, discarded := discarded })

/-- An Idle Frame, a Sample Frame and a first Request Frame abandon a request that is ASSEMBLING, with BAD_REQUEST in an
EMPTY reply slot and an overrun at a FULL one, and are then taken as they are; an Idle Frame changes nothing else. A frame
that fails its check raises the frame error counter and nothing else. A first Request Frame begins a request; a count out
of range, an unknown code and a frame count that is not the code's own are answered BAD_REQUEST, or counted as an overrun
where the slot is FULL; a setting or a sub-function that is none is refused BAD_VALUE. A continuation is discarded in
IDLE, and appended while frames are still to come (R130, R143, R161, R162, R163, R178). -/
def Obligations.Source_frames_taken : Prop :=
  ∀ (s : State) (p : Port), s.due = [] →
    let frames := fun code : Byte =>
      if code = 0 ∨ 28 < code.toNat then none
      else if code = 8 ∨ code = 9 then some 3
      else if code = 14 ∨ code = 21 ∨ code = 22 ∨ code = 27 then some 2
      else some 1
    let turned := fun (code tag : Byte) (x : PortState) =>
      match x.slot with
      | some _ => { x with overruns := bump x.overruns }
      | none => { x with slot := some { request := code, tag := tag, reply := refuse .badRequest, sent := 0 } }
    ((s.port p).assembly = .idle → exec (.idleFrame p (encodeSourceFrame .idle)) s = .next s)
    ∧ (∀ code tag n m pl, (s.port p).assembly = .assembling code tag n m pl →
      let left := s.setPort p (turned code tag { s.port p with assembly := .idle })
      exec (.idleFrame p (encodeSourceFrame .idle)) s = .next left
      ∧ (∀ bytes x claim, decodeSourceFrame bytes = some (.sample x claim) →
        exec (.sampleFrame p bytes) s = exec (.sampleFrame p bytes) left)
      ∧ ∀ bytes n' code' tag' pl', decodeSourceFrame bytes = some (.requestFirst n' code' tag' pl') →
        exec (.requestFrame p bytes) s = exec (.requestFrame p bytes) left)
    ∧ (∀ bytes, decodeSourceFrame bytes = none →
      exec (.discardedSourceFrame p bytes) s =
        .next (s.setPort p { s.port p with frameErrors := bump (s.port p).frameErrors }))
    ∧ (∀ n code tag pl, 2 ≤ n → n ≤ 6 → pl.length = 3 → (s.port p).assembly = .idle →
      exec (.requestFrame p (encodeSourceFrame (.requestFirst n code tag pl))) s =
        .next (s.setPort p { s.port p with assembly := .assembling code tag n 1 pl }))
    ∧ (∀ n code tag pl, n = 0 ∨ n = 7 ∨ (n = 1 ∧ frames code ≠ some 1) → pl.length = 3 →
      (s.port p).assembly = .idle →
      exec (.requestFrame p (encodeSourceFrame (.requestFirst n code tag pl))) s =
        .next (s.setPort p (turned code tag (s.port p))))
    ∧ (∀ code tag pl, pl.length = 3 → (s.port p).assembly = .idle → (s.port p).slot = none →
      (code = 1 ∧ (pl.getD 0 0 = 0 ∨ 14 < (pl.getD 0 0).toNat))
        ∨ (code = 28 ∧ (pl.getD 0 0 = 0 ∨ 4 < (pl.getD 0 0).toNat)) →
      exec (.requestFrame p (encodeSourceFrame (.requestFirst 1 code tag pl))) s =
        .next (placeReply p code tag (refuse .badValue) s))
    ∧ (∀ pl, pl.length = 6 → (s.port p).assembly = .idle →
      exec (.requestFrame p (encodeSourceFrame (.requestNext pl))) s = .next s)
    ∧ ∀ code tag n m got pl, pl.length = 6 → (s.port p).assembly = .assembling code tag n m got →
      (m + 1 ≠ n →
        exec (.requestFrame p (encodeSourceFrame (.requestNext pl))) s =
          .next (s.setPort p { s.port p with assembly := .assembling code tag n (m + 1) (got ++ pl) }))
      ∧ (m + 1 = n → frames code ≠ some n →
        exec (.requestFrame p (encodeSourceFrame (.requestNext pl))) s =
          .next (s.setPort p (turned code tag { s.port p with assembly := .idle })))

/-- A present port whose age is at or above HOLDOVER becomes not present. A LIVE owner at or above HOLDOVER becomes
LOST; the takeover is made where its conditions hold, and DRIVE_LOST is raised where they do not (R131, R133, R134,
R136). A port that a force owner has just made the owner is no exception: the model's reading, log entry 27. -/
def Obligations.Holdover_and_owner_loss : Prop :=
  (∀ (s : State) (p : Port), TickEvent.holdover p ∈ s.due →
    exec (.holdoverExpiry p) s = .next (
      if (s.port p).present = true ∧ s.settings.holdover ≤ (s.port p).age then
        (s.setDue (s.due.erase (.holdover p))).setPort p { s.port p with present := false }
      else s.setDue (s.due.erase (.holdover p))))
  ∧ ∀ s : State, TickEvent.ownerLoss ∈ s.due →
    let owner := s.selector.owner
    let other := s.port owner.other
    exec .ownerLoss s = .next (
      if s.selector.condition = .live ∧ s.settings.holdover ≤ (s.port owner).age then
        if s.selector.mode = .auto ∧ other.present = true ∧ other.barred = false then
          raise (.changeover owner.other)
            { s with
              due := s.due.erase .ownerLoss
              selector := { s.selector with owner := owner.other, condition := .live }
              buffer := { s.buffer with fifo := [], state := .priming } }
        else
          raise (.driveLost owner)
            { s with due := s.due.erase .ownerLoss, selector := { s.selector with condition := .lost } }
      else s.setDue (s.due.erase .ownerLoss))

/-! ### Timebase, schedule and contact lines (chapter 9) -/

/-- The second advances, and at 86399 the weekday with it; the entry whose time and weekday are met fires. A firing is
skipped with SCHEDULE_SKIPPED by the first reason of HELD, SAFE, NOT_READY and QUEUE_FULL that applies, and otherwise
offers a SCHEDULE order to the queue (R148, R153, R154). -/
def Obligations.Second_advance_fires : Prop :=
  ∀ s : State, TickEvent.second ∈ s.due → s.timebase.clock = .running → 999 ≤ s.timebase.subsecond →
    let second := if s.timebase.second = 86399 then 0 else s.timebase.second + 1
    let weekday := if s.timebase.second = 86399 then s.timebase.weekday + 1 else s.timebase.weekday
    let later : State :=
      { s with
        due := s.due.erase .second
        timebase := { s.timebase with second := second, weekday := weekday, subsecond := 0 } }
    exec .secondAdvance s = .next (
      match s.schedule.entries.find? fun e => e.time == second && e.days.getLsbD weekday.val with
      | none => later
      | some e =>
        if s.schedule.hold then raise (.scheduleSkipped e.time .held) later
        else if s.safeOrDropping then raise (.scheduleSkipped e.time .safe) later
        else if (s.record e.pattern).isReady = false then raise (.scheduleSkipped e.time .notReady) later
        else if 4 ≤ s.shift.queue.length
            ∧ (s.shift.queue.getLast?.map fun o => o.target) ≠ some (some e.pattern) then
          raise (.scheduleSkipped e.time .queueFull) later
        else offerOrder { target := some e.pattern, cause := .schedule, origin := .time e.time } later)

/-- A debounced change takes the sampled level, clears the count and acts by the line's action; a CONTACT order is
discarded in SAFE, in a safe drop, for a pattern that is not READY or on a full queue, and otherwise offered; the onset
of mute discards the monitor's window and its end begins one by the duty (R34, R89, R156, R157, R158). -/
def Obligations.Contact_change_acts : Prop :=
  ∀ (s : State) (l : Line), TickEvent.contact l ∈ s.due → (s.line l).sampled ≠ (s.line l).active →
    s.settings.debounce < (s.line l).count →
    let level := (s.line l).sampled
    let taken := (s.setDue (s.due.erase (.contact l))).setLine l { s.line l with active := level, count := 0 }
    let order := fun p : Slot => ({ target := some p, cause := .contact, origin := .line l } : Order)
    let asked := fun p : Slot =>
      if s.safeOrDropping = true ∨ (s.record p).isReady = false ∨ offerAnswer (order p) s = .full then
        raise (.orderDiscarded (some p) .contact (.line l)) taken
      else offerOrder (order p) taken
    exec (.contactDebouncedChange (l.val + 1)) s = .next (
      match (s.line l).action with
      | .none => taken
      | .shiftOnActive p => if level then asked p else taken
      | .shiftPair p q => if level then asked p else asked q
      | .mute =>
        if taken.mute = s.mute then taken
        else
          taken.setWindow
            (match s.monitor.duty.pattern with
            | some p => if taken.mute then none else freshWindow s p
            | none => none))

/-! ### Station settings (R20, R52, R80, R96, R122, R131, R156, R165) -/

/-- The nine settings whose accepted write does nothing but take the new value: state test, range, test against other
state, in that order, and the reply returns the value before and after. -/
def Obligations.Setup_plain_settings : Prop :=
  ∀ (s : State) (p : Port) (tag : Byte) (value : Half), s.admits p →
    let v := value.toNat
    let x := s.settings
    let no := fun code : ReplyCode => (Host.Outcome.next (placeReply p 1 tag (refuse code) s) : Host.Outcome State Fault Refusal)
    let yes := fun (old : Nat) (y : Settings) =>
      (Host.Outcome.next (placeReply p 1 tag (replyOk (u16 old ++ u16 v)) { s with settings := y }) :
        Host.Outcome State Fault Refusal)
    (exec (.stationSetupDropLength p tag value) s =
      if s.shifting = true then no .busy else if v < 1 ∨ 1000 < v then no .badValue
      else yes x.dropLength { x with dropLength := v })
    ∧ (exec (.stationSetupVerifyTries p tag value) s =
      if s.shifting = true then no .busy else if v < 1 ∨ 4 < v then no .badValue
      else yes x.verifyTries { x with verifyTries := v })
    ∧ (exec (.stationSetupCeiling p tag value) s =
      if s.shifting = true then no .busy
      else if ∃ q : Slot, (s.record q).isReady = true ∧ ∃ h ∈ (s.record q).header, v < h.cap then no .inUse
      else yes x.ceiling { x with ceiling := v })
    ∧ (exec (.stationSetupTravelWarn p tag value) s =
      if v < 10 ∨ 2000 < v then no .badValue else if x.travelLimit ≤ v then no .badValue
      else yes x.travelWarn { x with travelWarn := v })
    ∧ (exec (.stationSetupTravelLimit p tag value) s =
      if ∃ k : Tower, (s.net k).state.isMoving = true then no .busy
      else if v < 20 ∨ 5000 < v then no .badValue else if v ≤ x.travelWarn then no .badValue
      else yes x.travelLimit { x with travelLimit := v })
    ∧ (exec (.stationSetupSilenceTime p tag value) s =
      if v < 2 ∨ 255 < v then no .badValue else yes x.silenceTime { x with silenceTime := v })
    ∧ (exec (.stationSetupWindowLimit p tag value) s =
      if v < 100 ∨ 10000 < v then no .badValue else yes x.windowLimit { x with windowLimit := v })
    ∧ (exec (.stationSetupHoldover p tag value) s =
      if v < 5 ∨ 500 < v then no .badValue else yes x.holdover { x with holdover := v })
    ∧ exec (.stationSetupDebounce p tag value) s =
      if 255 < v then no .badValue else yes x.debounce { x with debounce := v }

/-- The settings whose accepted write acts on other state: ARRAY_SIZE on the Tower Table and the network records,
FRAME_RATE on the buffer and on the model's count of frame timer expiries, which becomes 0 (log entry 5), STEP_PERIOD on
the step timer, with a write of the value in force too (the model's choice, log entry 25), MON_WINDOW on the window,
FAIL_LIMIT on the out flags (R19, R51, R65, R88, R96, R99, R124, R142, R147). -/
def Obligations.Setup_settings_with_effects : Prop :=
  ∀ (s : State) (p : Port) (tag : Byte) (value : Half), s.admits p →
    let v := value.toNat
    let x := s.settings
    let no := fun code : ReplyCode => (Host.Outcome.next (placeReply p 1 tag (refuse code) s) : Host.Outcome State Fault Refusal)
    let yes := fun (old : Nat) (y : State) =>
      (Host.Outcome.next (placeReply p 1 tag (replyOk (u16 old ++ u16 v)) y) : Host.Outcome State Fault Refusal)
    (exec (.stationSetupArraySize p tag value) s =
      if s.atRest = false then no .busy else if v < 2 ∨ 12 < v then no .badValue
      else if ∃ q : Slot, ∃ e ∈ (s.record q).entries, v ≤ e.tower.val then no .inUse
      else if v = x.arraySize then yes x.arraySize s
      else
        yes x.arraySize
          { s with
            settings := { x with arraySize := v }
            link :=
              { s.link with
                towers := tab fun k =>
                  if k.val < v ∧ k.val < x.arraySize then s.tower k
                  else
                    { present := false, paFault := false, lockout := (s.tower k).lockout, causes := Causes.none,
                      silenceTimer := 0, silenceRunning := decide (k.val < v), lastSlot := none } }
            nets := tab fun k =>
              if v < x.arraySize ∧ v ≤ k.val then
                { state := .unknown, commanded := none, travelTimer := 0, lastTravel := (s.net k).lastTravel }
              else s.net k })
    ∧ (exec (.stationSetupFrameRate p tag value) s =
      if v < 8000 ∨ 64000 < v then no .badValue
      else
        yes x.frameRate
          { s with
            settings := { x with frameRate := v }
            buffer := { s.buffer with fifo := [], state := .priming }
            timebase := { s.timebase with frameTimer := 0 } })
    ∧ (exec (.stationSetupStepPeriod p tag value) s =
      if v < 1 ∨ 16 < v then no .badValue
      else if ∃ c ∈ s.shift.array.context, c.phase = .drop ∨ c.phase = .cross then
        yes x.stepPeriod { s with settings := { x with stepPeriod := v } }
      else
        yes x.stepPeriod
          { s with
            settings := { x with stepPeriod := v }
            shift := { s.shift with timer := { counter := v, running := s.shift.timer.running } } })
    ∧ (exec (.stationSetupMonWindow p tag value) s =
      if v ≠ 1 ∧ v ≠ 2 ∧ v ≠ 4 ∧ v ≠ 8 ∧ v ≠ 16 ∧ v ≠ 32 ∧ v ≠ 64 then no .badValue
      else if v = x.monWindow then yes x.monWindow s
      else yes x.monWindow (restartWindow { s with settings := { x with monWindow := v } }))
    ∧ exec (.stationSetupFailLimit p tag value) s =
      if v < 1 ∨ 15 < v then no .badValue
      else
        yes x.failLimit
          { s with
            settings := { x with failLimit := v }
            monitor :=
              { s.monitor with records := tab fun k => { s.monitor.records.get k with out := false } } }

/-! ### Requests of the whole part (R166 to R169, R175) -/

/-- Station Query returns the value in force of the setting named, or all fourteen in the order of R165's table; any
other setting is refused BAD_VALUE; nothing else changes (R166). -/
def Obligations.Station_query : Prop :=
  ∀ (s : State) (p : Port) (tag setting : Byte), s.admits p →
    let x := s.settings
    let values := [x.arraySize, x.frameRate, x.stepPeriod, x.dropLength, x.ceiling, x.travelWarn, x.travelLimit,
      x.silenceTime, x.monWindow, x.windowLimit, x.verifyTries, x.failLimit, x.holdover, x.debounce]
    (∀ i : Fin 14, setting.toNat = i.val + 1 →
      exec (.stationQuery p tag setting) s = .next (placeReply p 2 tag (replyOk (u16 (values.getD i.val 0))) s))
    ∧ (setting = 255 →
      exec (.stationQuery p tag setting) s = .next (placeReply p 2 tag (replyOk (values.map u16).flatten) s))
    ∧ (setting = 0 ∨ 14 < setting.toNat ∧ setting ≠ 255 →
      exec (.stationQuery p tag setting) s = .next (placeReply p 2 tag (refuse .badValue) s))

/-- Status Query, Pattern Read, Tower Status and Schedule Read return what they read and change nothing but the reply
slot; an item that does not exist is NOT_FOUND, a pattern above 7 and a tower of 0 or above 12 BAD_VALUE (R14, R127,
R152, R167). Some fields of their layouts are the model's reading, log entries 12 to 19, 24
and 26; Reply_value_bytes says the bytes. -/
def Obligations.Reading_requests : Prop :=
  ∀ (s : State) (p : Port) (tag : Byte), s.admits p →
    exec (.statusQuery p tag) s = .next (placeReply p 3 tag (replyOk (statusValues s)) s)
    ∧ (∀ pattern item : Byte, exec (.patternRead p tag pattern item) s = .next (placeReply p 13 tag
      (match slotOf pattern.toNat with
      | none => refuse .badValue
      | some q =>
        if item = 0 then replyOk (itemZero s q)
        else if h : item.toNat ≤ (s.record q).entries.length ∧ 1 ≤ item.toNat then
          replyOk (entryBytes ((s.record q).entries[item.toNat - 1]'(by omega)))
        else refuse .notFound) s))
    ∧ (∀ tower : Byte, exec (.towerStatus p tag tower) s = .next (placeReply p 20 tag
      (if h : 1 ≤ tower.toNat ∧ tower.toNat ≤ 12 then
        let k : Tower := ⟨tower.toNat - 1, by omega⟩
        replyOk (towerEntryBytes (s.tower k) ++ netBytes (s.net k) ++ engineBytes s k
          ++ monRecordBytes (s.monitor.records.get k) ++ membershipBytes s k)
      else refuse .badValue) s))
    ∧ ∀ item : Byte, exec (.scheduleRead p tag item) s = .next (placeReply p 26 tag
      (if item = 0 then
        replyOk (u8 s.schedule.entries.length ++ flag s.schedule.hold ++ clockBytes s.timebase)
      else if h : item.toNat ≤ s.schedule.entries.length ∧ 1 ≤ item.toNat then
        let e := s.schedule.entries[item.toNat - 1]'(by omega)
        replyOk (u24 e.time ++ u8 e.days.toNat ++ u8 e.pattern.val)
      else refuse .notFound) s)

/-- The value bytes of the replies that read state, value by value in the order of the rules' tables, with the widths and
the code sets of R178 and R180: Status Query, Pattern Read, Tower Status and the clock of a Schedule Read. Where R178
leaves a width, a code or a place to inference the model's reading stands, log entries 12 to 19, 24 and 26 (R14, R53,
R127, R145, R152, R159, R167, R178, R180, R181). -/
def Obligations.Reply_value_bytes : Prop :=
  let one := fun n : Nat => [(BitVec.ofNat 8 n : Byte)]
  let two := fun n : Nat => one (n / 256) ++ one n
  let three := fun n : Nat => one (n / 65536) ++ two n
  let five := fun n : Nat => one (n / 4294967296) ++ one (n / 16777216) ++ three n
  let signed := fun x : Int => two (BitVec.ofInt 16 x).toNat
  let complex := fun x : Cpx => signed x.re ++ signed x.im
  let set := fun bs : List (Nat × Bool) => (bs.map fun b => if b.2 then b.1 else 0).sum
  let yes := fun b : Bool => one (if b then 1 else 0)
  let pattern := fun p : Option Slot => one (match p with | some q => q.val | none => 255)
  let tower := fun k : Option Tower => one (match k with | some j => j.val + 1 | none => 255)
  let position := fun p : Option Pos => one (match p with | some q => q.val | none => 255)
  let port := fun p : Port => one (match p with | .A => 0 | .B => 1)
  let level := fun b : Bool => one (if b then 0 else 1)
  let cause : OrderCause → Nat := fun c =>
    match c with | .manual => 0 | .schedule => 1 | .contact => 2 | .fallback => 3 | .abort => 4 | .safe => 5
  let reason : Reason → Nat := fun r =>
    match r with
    | .noEntries => 1 | .noReference => 2 | .zeroExpected => 3 | .capAboveCeiling => 4 | .capExceeded => 5
    | .notReady => 16 | .notUsable => 17 | .jammed => 18 | .towerFault => 19 | .verifyFail => 20 | .aborted => 21
    | .monitorOut => 22 | .secondFailure => 32 | .noFallback => 33 | .held => 48 | .safe => 49 | .queueFull => 50
  let origin : Origin → List Byte := fun o =>
    match o with
    | .port p => ([0, 0, 0] : List Byte) ++ port p
    | .time n => ([1] : List Byte) ++ three n
    | .line l => ([2, 0, 0] : List Byte) ++ one (l.val + 1)
    | .pattern p => ([3, 0, 0] : List Byte) ++ one p.val
  let none' := fun n : Nat => List.replicate n (255 : Byte)
  let weekclock := fun b : Timebase =>
    one (match b.clock with | .unset => 0 | .running => 1) ++ three b.second ++ one b.weekday.val
  let state : PatternRecord → List Byte := fun r =>
    one (match r with | .empty => 0 | .opened _ _ => 1 | .ready _ _ => 2)
  let marks := fun (s : State) (p : Slot) =>
    one (set [(1, s.markLive p), (2, s.markSource p), (4, s.markTarget p), (8, s.markQueued p)])
  (∀ s : State,
    let array : List Byte :=
      (match s.shift.array with
        | .noPattern => ([0, 255] : List Byte) ++ none' 18
        | .steady p => ([1] : List Byte) ++ one p.val ++ none' 18
        | .safe => ([3, 255] : List Byte) ++ none' 18
        | .shifting c =>
          ([2, 255] : List Byte) ++ pattern c.source ++ one (match c.prior with | .noPattern => 0 | .steady => 1 | .safe => 3)
            ++ pattern c.target ++ one (cause c.cause)
            ++ (match c.origin with | some o => origin o | none => none' 4)
            ++ one (match c.phase with | .drop => 0 | .switch => 1 | .cross => 2 | .verify => 3)
            ++ two (set (allTowers.map fun k => (2 ^ k.val, decide (k ∈ c.switchSet)))) ++ two c.stepCount
            ++ (match c.stepTotal with | some n => two n | none => none' 2) ++ two c.switchWait ++ one c.verifyUsed)
        ++ one s.shift.queue.length
        ++ (s.shift.queue.map fun o => pattern o.target ++ one (cause o.cause) ++ origin o.origin).flatten
        ++ yes s.shift.fallbackFlag
    let f := s.shift.lastFailure
    let failure : List Byte :=
      one (match f.kind with | .none => 0 | .transition => 1 | .steady => 2) ++ pattern f.pattern
        ++ one (match f.reason with | some r => reason r | none => 255) ++ tower f.tower
        ++ one (match f.cause with | some c => cause c | none => 255)
        ++ one (match f.flag with | some true => 1 | some false => 0 | none => 255) ++ one f.links
        ++ one (match f.outcome with | some .fallback => 0 | some .safeDrop => 1 | none => 255) ++ pattern f.fallback
        ++ one (match f.dropReason with | some r => reason r | none => 255)
    let patterns : List Byte :=
      (allSlots.map fun p =>
        state (s.record p) ++ marks s p ++ one (s.record p).entries.length
          ++ (match s.record p with | .empty => none' 5 | _ => five (rawPower (s.record p).entries))).flatten
    let monitor : List Byte :=
      one (match s.monitor.duty with | .none => 0 | .steady _ => 1 | .verify _ => 2)
        ++ (match s.monitor.window with
          | some w => ([1] : List Byte) ++ one w.pattern.val ++ two w.timer ++ two w.reports ++ two w.limit
          | none => ([0] : List Byte) ++ none' 7)
    let selector :=
      port s.selector.owner ++ one (match s.selector.condition with | .live => 0 | .lost => 1)
        ++ one (match s.selector.mode with | .auto => 0 | .manual => 1) ++ port s.selector.preferred
    let source := fun x : PortState =>
      yes x.present ++ two x.age ++ yes x.barred ++ two x.frameErrors ++ two x.discarded ++ two x.overruns
    let buffer :=
      one (match s.buffer.state with | .priming => 0 | .running => 1) ++ one s.buffer.fifo.length
        ++ complex s.buffer.held ++ two s.buffer.underruns ++ two s.buffer.overruns
    let line : ContactLine → List Byte := fun x =>
      one (match x.sense with | .activeHigh => 0 | .activeLow => 1)
        ++ (match x.action with
          | .none => [0, 255, 255]
          | .shiftOnActive p => ([1] : List Byte) ++ one p.val ++ [255]
          | .shiftPair p q => ([2] : List Byte) ++ one p.val ++ one q.val
          | .mute => [3, 255, 255])
        ++ level (match x.sense with | .activeHigh => x.pin | .activeLow => !x.pin) ++ level x.active
    let notice := fun x : NoticeSource =>
      yes x.enabled ++ one (match x.level with | .routine => 0 | .urgent => 1) ++ yes x.pending.isSome ++ yes x.repeated
    statusValues s =
        array ++ failure ++ patterns ++ five (powerOf s.engine.live) ++ yes s.mute ++ monitor ++ two s.link.returnErrors
          ++ selector ++ source s.portA ++ source s.portB ++ buffer ++ weekclock s.timebase ++ yes s.schedule.hold
          ++ (allLines.map fun l => line (s.line l)).flatten
          ++ ((List.finRange 13).map fun i => notice (s.noticeSource i)).flatten
      ∧ selectorBytes s.selector = selector ∧ clockBytes s.timebase = weekclock s.timebase)
  ∧ (∀ (s : State) (p : Slot),
    itemZero s p =
      state (s.record p) ++ marks s p
        ++ (match s.record p with
          | .empty => []
          | .opened h es | .ready h es =>
            tower h.reference ++ position h.park ++ two h.cap ++ two h.ramp ++ two h.trimLimit ++ pattern h.fallback
              ++ yes h.monitorFallback ++ one es.length ++ five (rawPower es)))
  ∧ (∀ e : Entry,
    entryBytes e =
      tower e.tower ++ complex e.loaded ++ position e.position ++ complex e.expected ++ one e.tolerance
        ++ complex e.trim ++ complex e.effective)
  ∧ (∀ x : TowerEntry,
    towerEntryBytes x =
      yes x.present ++ yes x.paFault ++ yes x.lockout
        ++ one (set [(1, x.causes.paFault), (2, x.causes.silent), (4, x.causes.jammed), (8, x.causes.wrongPosition),
          (16, x.causes.upset)])
        ++ two x.silenceTimer ++ yes x.silenceRunning
        ++ (match x.lastSlot with
          | none => [0, 0, 0, 0, 0]
          | some r =>
            one (128 + (match r.network with | .travel => 64 | .settled p => 16 * p.val)
              + set [(8, r.paFault), (4, r.phasor.isSome)]) ++ complex (r.phasor.getD ⟨0, 0⟩)))
  ∧ (∀ n : NetRecord,
    netBytes n =
      (match n.state with
        | .unknown => [0, 255]
        | .settled p => ([1] : List Byte) ++ position p
        | .moving _ _ => [2, 255]
        | .jammed => [3, 255]
        | .drifting => [4, 255])
        ++ position n.commanded
        ++ two (match n.state with | .moving _ _ => n.travelTimer | _ => n.lastTravel)
        ++ position (match n.state with | .moving _ p => some p | _ => none))
  ∧ (∀ (s : State) (k : Tower),
    let above := decide (s.settings.arraySize ≤ k.val)
    let faulty := decide ((s.tower k).causes ≠ Causes.none)
    engineBytes s k =
        complex (s.live k) ++ yes (above || (s.tower k).lockout || faulty || s.mute)
          ++ one (set [(1, above), (2, (s.tower k).lockout), (4, faulty), (8, s.mute)])
          ++ two (s.engine.saturation.get k)
      ∧ (s.monitor.window = none → membershipBytes s k = [0, 255])
      ∧ ∀ w, s.monitor.window = some w →
        membershipBytes s k = if w.tested k = true then ([1] : List Byte) ++ one (w.acc.get k).count else [0, 255])
  ∧ ∀ r : MonRecord,
    monRecordBytes r =
      complex r.average ++ one r.deviation
        ++ one (match r.outcome with | .pass => 0 | .fail => 1 | .silent => 2 | .untested => 3 | .refSilent => 4)
        ++ one r.failCount ++ yes r.out ++ two r.windows

/-- Counter Clear sets every counter of the part to 0 and nothing else. Unit Reset clears the running state block by
block and keeps the configuration, and its reply is placed in the slot it has cleared (R27, R51, R79, R82, R83, R129,
R144, R168, R169, R172). -/
def Obligations.Counter_clear_and_unit_reset : Prop :=
  ∀ (s : State) (p : Port) (tag : Byte), s.admits p →
    exec (.counterClear p tag) s = .next (placeReply p 4 tag (replyOk [])
      { s with
        engine := { live := s.engine.live, saturation := Vector.replicate 12 0 }
        link := { s.link with returnErrors := 0 }
        portA := { s.portA with frameErrors := 0, discarded := 0, overruns := 0 }
        portB := { s.portB with frameErrors := 0, discarded := 0, overruns := 0 }
        buffer := { s.buffer with underruns := 0, overruns := 0 }
        monitor :=
          { s.monitor with records := tab fun k => { s.monitor.records.get k with windows := 0 } } })
    ∧ exec (.unitReset p tag) s = .next (placeReply p 5 tag (replyOk [])
      { s with
        engine := { live := Vector.replicate 12 ⟨0, 0⟩, saturation := Vector.replicate 12 0 }
        nets := Vector.replicate 12 { state := .unknown, commanded := none, travelTimer := 0, lastTravel := 0 }
        shift :=
          { array := .noPattern, queue := [], timer := { counter := s.settings.stepPeriod, running := false },
            fallbackFlag := false, lastFailure := .clear }
        monitor := { duty := .none, window := none, records := Vector.replicate 12 .initial }
        link :=
          { s.link with
            returnErrors := 0
            towers := tab fun k =>
              { present := false, paFault := false, lockout := (s.tower k).lockout, causes := Causes.none,
                silenceTimer := 0, silenceRunning := decide (k.val < s.settings.arraySize), lastSlot := none } }
        portA :=
          { s.portA with
            frameErrors := 0, discarded := 0, overruns := 0, barred := false, assembly := .idle, slot := none }
        portB :=
          { s.portB with
            frameErrors := 0, discarded := 0, overruns := 0, barred := false, assembly := .idle, slot := none }
        selector := { s.selector with owner := s.selector.preferred, condition := .live }
        buffer := { fifo := [], state := .priming, held := s.buffer.held, underruns := 0, overruns := 0 }
        notices := tab fun i => { s.noticeSource i with pending := none, repeated := false } })

/-! ### Pattern Table (chapter 1) -/

/-- Pattern Open by the record's state and use marks, with the default header of a record opened from EMPTY; the opened
pattern is not usable. Pattern Erase discards a record without a use mark and returns the state it had (R7, R13). -/
def Obligations.Pattern_open_and_erase : Prop :=
  ∀ (s : State) (p : Port) (tag pattern : Byte), s.admits p →
    (8 ≤ pattern.toNat →
      exec (.patternOpen p tag pattern) s = .next (placeReply p 7 tag (refuse .badValue) s)
        ∧ exec (.patternErase p tag pattern) s = .next (placeReply p 12 tag (refuse .badValue) s))
    ∧ ∀ q : Slot, pattern.toNat = q.val →
      (exec (.patternOpen p tag pattern) s = .next (
        match s.record q with
        | .empty =>
          placeReply p 7 tag (replyOk [])
            (s.setRecord q (.opened
              { reference := none, park := 0, cap := 0, ramp := 100, trimLimit := 0, fallback := none,
                monitorFallback := false } []))
        | .opened _ _ => placeReply p 7 tag (replyOk []) s
        | .ready h es =>
          if s.markLive q || s.markSource q || s.markTarget q || s.markQueued q then
            placeReply p 7 tag (refuse .inUse) s
          else placeReply p 7 tag (replyOk []) (s.setRecord q (.opened h es))))
      ∧ (∀ t, exec (.patternOpen p tag pattern) s = .next t → s.inUse q = false → t.usable q = false)
      ∧ exec (.patternErase p tag pattern) s = .next (
        if s.markLive q || s.markSource q || s.markTarget q || s.markQueued q then
          placeReply p 12 tag (refuse .inUse) s
        else
          placeReply p 12 tag
            (replyOk (u8 (match s.record q with | .empty => 0 | .opened _ _ => 1 | .ready _ _ => 2)))
            (s.setRecord q .empty))

/-- Pattern Header, Tower Entry and Tower Entry Remove on an OPEN record. The header is replaced whole and every trim
offset is brought within the new limit; an entry takes its place in tower order with trim offset (0, 0) and the other
entries stay; a removed entry leaves the others. A pattern number above 7 is refused BAD_VALUE, any other record
BAD_STATE, and an operand out of its range BAD_VALUE (R6, R8, R9, R10). -/
def Obligations.Pattern_edits : Prop :=
  (∀ (s : State) (p : Port) (tag : Byte) (q : Slot) (h : Header) (es : List Entry), s.admits p →
    s.record q = .opened h es → s.EntriesLaw →
    let number : Byte := BitVec.ofNat 8 q.val
    (∀ (r : Option Tower) (park : Pos) (cap ramp limit : Half) (f : Option Slot) (option : Bool),
      (∀ k ∈ r, k.val < s.settings.arraySize) → f ≠ some q → 1 ≤ ramp.toNat → ramp.toNat ≤ 4000 →
      limit.toNat ≤ 2048 →
      let bound : Int := limit.toNat
      let clamp := fun x : Int => max (-bound) (min bound x)
      let beyond := fun x : Int => if limit.toNat < x.natAbs then 1 else 0
      exec (.patternHeader p tag number (match r with | some k => BitVec.ofNat 8 (k.val + 1) | none => 255)
          (BitVec.ofNat 8 park.val) cap ramp limit (match f with | some g => BitVec.ofNat 8 g.val | none => 255)
          (if option then 1 else 0)) s =
        .next (placeReply p 8 tag
          (replyOk (u8 (es.map fun e => beyond e.trim.re + beyond e.trim.im).sum))
          (s.setRecord q (.opened
            { reference := r, park := park, cap := cap.toNat, ramp := ramp.toNat, trimLimit := limit.toNat,
              fallback := f, monitorFallback := option }
            (es.map fun e => { e with trim := ⟨clamp e.trim.re, clamp e.trim.im⟩ })))))
    ∧ (∀ (k : Tower) (wre wim : Half) (pos : Pos) (xre xim : Half) (tol : Byte), k.val < s.settings.arraySize →
      wre ≠ 32768 → wim ≠ 32768 → xre ≠ 32768 → xim ≠ 32768 →
      let e : Entry :=
        { tower := k, loaded := ⟨wre.toInt, wim.toInt⟩, position := pos, expected := ⟨xre.toInt, xim.toInt⟩,
          tolerance := tol.toNat, trim := Cpx.zero }
      ∃ (es' : List Entry) (i : Nat), exec (.towerEntry p tag number (BitVec.ofNat 8 (k.val + 1)) wre wim
          (BitVec.ofNat 8 pos.val) xre xim tol) s =
        .next (placeReply p 9 tag (replyOk (u8 (i + 1) ++ flag (es.any fun x => x.tower == k)))
          (s.setRecord q (.opened h es')))
        ∧ es'[i]? = some e ∧ es'.Pairwise (fun a b => a.tower < b.tower)
        ∧ ∀ x : Entry, x.tower ≠ k → (x ∈ es' ↔ x ∈ es))
    ∧ (∀ k : Tower, k.val < s.settings.arraySize →
      exec (.towerEntryRemove p tag number (BitVec.ofNat 8 (k.val + 1))) s = .next (
        if es.any fun x => x.tower == k then
          placeReply p 10 tag (replyOk (u8 (es.filter fun x => x.tower != k).length))
            (s.setRecord q (.opened h (es.filter fun x => x.tower != k)))
        else placeReply p 10 tag (refuse .notFound) s)))
  ∧ (∀ (s : State) (p : Port) (tag pattern : Byte), s.admits p → 8 ≤ pattern.toNat →
    (∀ reference park cap ramp limit fallback option,
      exec (.patternHeader p tag pattern reference park cap ramp limit fallback option) s =
        .next (placeReply p 8 tag (refuse .badValue) s))
    ∧ (∀ tower wre wim position xre xim tolerance,
      exec (.towerEntry p tag pattern tower wre wim position xre xim tolerance) s =
        .next (placeReply p 9 tag (refuse .badValue) s))
    ∧ ∀ tower, exec (.towerEntryRemove p tag pattern tower) s = .next (placeReply p 10 tag (refuse .badValue) s))
  ∧ ∀ (s : State) (p : Port) (tag : Byte) (q : Slot), s.admits p →
    let number : Byte := BitVec.ofNat 8 q.val
    (∀ reference park cap ramp limit fallback option,
      ((s.record q = .empty ∨ (s.record q).isReady = true) →
        exec (.patternHeader p tag number reference park cap ramp limit fallback option) s =
          .next (placeReply p 8 tag (refuse .badState) s))
      ∧ (∀ h es, s.record q = .opened h es →
        ((reference = 0 ∨ s.settings.arraySize < reference.toNat) ∧ reference ≠ 255) ∨ 3 < park.toNat ∨ ramp = 0
          ∨ 4000 < ramp.toNat ∨ 2048 < limit.toNat ∨ (7 < fallback.toNat ∧ fallback ≠ 255)
          ∨ fallback.toNat = q.val ∨ 1 < option.toNat →
        exec (.patternHeader p tag number reference park cap ramp limit fallback option) s =
          .next (placeReply p 8 tag (refuse .badValue) s)))
    ∧ (∀ tower wre wim position xre xim tolerance,
      ((s.record q = .empty ∨ (s.record q).isReady = true) →
        exec (.towerEntry p tag number tower wre wim position xre xim tolerance) s =
          .next (placeReply p 9 tag (refuse .badState) s))
      ∧ (∀ h es, s.record q = .opened h es →
        tower = 0 ∨ s.settings.arraySize < tower.toNat ∨ wre = 32768 ∨ wim = 32768 ∨ xre = 32768 ∨ xim = 32768
          ∨ 3 < position.toNat →
        exec (.towerEntry p tag number tower wre wim position xre xim tolerance) s =
          .next (placeReply p 9 tag (refuse .badValue) s)))
    ∧ ∀ tower,
      ((s.record q = .empty ∨ (s.record q).isReady = true) →
        exec (.towerEntryRemove p tag number tower) s = .next (placeReply p 10 tag (refuse .badState) s))
      ∧ (∀ h es, s.record q = .opened h es → tower = 0 ∨ s.settings.arraySize < tower.toNat →
        exec (.towerEntryRemove p tag number tower) s = .next (placeReply p 10 tag (refuse .badValue) s))

/-- Pattern Close runs its five checks in their order; the first that fails leaves the record OPEN and is named, and a
record that passes them all becomes READY; the raw power is returned on success and with CAP_EXCEEDED (R11, R12). -/
def Obligations.Pattern_close_checks : Prop :=
  (∀ (s : State) (p : Port) (tag pattern : Byte), s.admits p → 8 ≤ pattern.toNat →
    exec (.patternClose p tag pattern) s = .next (placeReply p 11 tag (refuse .badValue) s))
  ∧ ∀ (s : State) (p : Port) (tag : Byte) (q : Slot), s.admits p →
    let failed := fun (r : Reason) (values : List Byte) =>
      placeReply p 11 tag { code := .checkFailed, reason := some r, values := values } s
    exec (.patternClose p tag (BitVec.ofNat 8 q.val)) s = .next (
      match s.record q with
      | .opened h es =>
        let power := (es.map fun e => e.effective.re.natAbs ^ 2 + e.effective.im.natAbs ^ 2).sum
        if es = [] then failed .noEntries []
        else if ¬∃ t ∈ h.reference, ∃ e ∈ es, e.tower = t then failed .noReference []
        else if ∃ e ∈ es, e.tolerance ≠ 0 ∧ h.reference ≠ some e.tower ∧ e.expected = ⟨0, 0⟩ then
          failed .zeroExpected []
        else if s.settings.ceiling < h.cap then failed .capAboveCeiling []
        else if h.cap * 65536 < power then failed .capExceeded (u40 power)
        else placeReply p 11 tag (replyOk (u40 power)) (s.setRecord q (.ready h es))
      | _ => placeReply p 11 tag (refuse .badState) s)

/-- Weight Trim: the order of its refusals; the new offset is the old one plus the delta, clamped to ± the trim limit;
a power above the cap is refused CHECK_FAILED with the power; an accepted trim is stored, and one of the live pattern in
STEADY also reaches the live weight, (0, 0) under the zero hold, and restarts the monitor's window (R15, R16, R25,
R88). -/
def Obligations.Weight_trim : Prop :=
  (∀ (s : State) (p : Port) (tag pattern tower : Byte) (dre dim : Half), s.admits p →
    (8 ≤ pattern.toNat →
      exec (.weightTrim p tag pattern tower dre dim) s = .next (placeReply p 14 tag (refuse .badValue) s))
    ∧ ∀ q : Slot, pattern.toNat = q.val →
      ((s.record q).isReady = false →
        exec (.weightTrim p tag pattern tower dre dim) s = .next (placeReply p 14 tag (refuse .badState) s))
      ∧ ((s.record q).isReady = true → (tower = 0 ∨ s.settings.arraySize < tower.toNat ∨ 12 < tower.toNat) →
        exec (.weightTrim p tag pattern tower dre dim) s = .next (placeReply p 14 tag (refuse .badValue) s)))
  ∧ ∀ (s : State) (p : Port) (tag : Byte) (q : Slot) (k : Tower) (dre dim : Half), s.admits p → s.EntriesLaw →
    let command : Instr := .weightTrim p tag (BitVec.ofNat 8 q.val) (BitVec.ofNat 8 (k.val + 1)) dre dim
    let answer := fun (r : Reply) (y : State) => (Host.Outcome.next (placeReply p 14 tag r y) : Host.Outcome State Fault Refusal)
    ((s.record q).isReady = false → exec command s = answer (refuse .badState) s)
    ∧ ∀ h es, s.record q = .ready h es →
      (s.settings.arraySize ≤ k.val → exec command s = answer (refuse .badValue) s)
      ∧ (k.val < s.settings.arraySize → (∀ e ∈ es, e.tower ≠ k) → exec command s = answer (refuse .notFound) s)
      ∧ ∀ e ∈ es, e.tower = k →
        let limit : Int := h.trimLimit
        let clamp := fun x : Int => max (-limit) (min limit x)
        let e' : Entry := { e with trim := ⟨clamp (e.trim.re + dre.toInt), clamp (e.trim.im + dim.toInt)⟩ }
        let es' := es.map fun x => if x.tower = k then e' else x
        let power := rawPower es'
        let stored := s.setRecord q (.ready h es')
        exec command s =
          if s.markSource q || s.markTarget q then answer (refuse .collision) s
          else if h.cap * 65536 < power then
            answer { code := .checkFailed, reason := some .capExceeded, values := u40 power } s
          else
            answer (replyOk (pair e'.trim ++ pair e'.effective ++ u40 power))
              (if s.shift.array = .steady q then
                restartWindow (stored.setLive (s.engine.live.set k (if s.zeroHold k then ⟨0, 0⟩ else e'.effective)))
              else stored)

/-! ### Orders and aborts (chapter 4) -/

/-- What happens to a routine order offered to the queue, by the first line of R57's table that applies; what an order
removed from the head does: discarded, dropped with its reason, completed at once, or a transition begun, after which
the examination goes on; and how a transition begins: in DROP, in CROSS, or in SWITCH, where a move of each SETTLED tower
of the switch set starts and each MOVING, UNKNOWN or DRIFTING one holds its wanted position (R38, R40, R57, R61, R62, R63,
R66, R67, R70). A JAMMED tower is unusable, and so in no switch set (R38). That the switch wait is 0 before SWITCH begins
is the model's choice, log entry 23. -/
def Obligations.Order_rules : Prop :=
  (∀ (o : Order) (s : State),
    let entered := s.setQueue (s.shift.queue ++ [o])
    offerOrder o s =
      if o.cause ≠ .manual ∧ s.safeOrDropping = true then s
      else if (∃ x ∈ s.shift.queue.getLast?, x.target = o.target) ∨ 4 ≤ s.shift.queue.length then s
      else if s.shifting = true then entered
      else examineQueue entered)
  ∧ (∀ s : State, s.shifting = true ∨ s.shift.queue = [] → examineQueue s = s)
  ∧ (∀ (s : State) (o : Order) (rest : List Order) (p : Slot), s.shifting = false → s.shift.queue = o :: rest →
    o.target = some p →
    let removed := s.setQueue rest
    examineQueue s = examineQueue (
      if s.shift.array = .safe ∧ o.cause ≠ .manual then raise (.orderDiscarded (some p) o.cause o.origin) removed
      else if (s.record p).isReady = false then raise (.shiftFailed (some p) .notReady none) removed
      else if s.usable p = false then raise (.shiftFailed (some p) .notUsable none) removed
      else if s.shift.array = .steady p then
        (raise (.shiftDone (some p) o.cause 0) removed).setFlag false
      else
        beginTransition
          { source := s.shift.array.livePattern
            prior :=
              match s.shift.array with
              | .steady _ => .steady
              | .safe => .safe
              | _ => .noPattern
            target := p, cause := o.cause, origin := o.origin } removed))
  ∧ ∀ (st : Start) (s : State) (h : Header), (s.record st.target).header = some h →
    let set := allTowers.filter fun k =>
      decide (k.val < s.settings.arraySize) && !(s.tower k).lockout && !(s.tower k).causes.any
        && (s.net k).state != .settled ((s.record st.target).wanted k)
    let context : Context :=
      { source := st.source, prior := st.prior, target := some st.target, cause := st.cause, origin := some st.origin,
        phase := .drop, switchSet := set, stepCount := 0, stepTotal := some s.settings.dropLength,
        startA := s.engine.live, endB := Vector.replicate 12 ⟨0, 0⟩, switchWait := 0, verifyUsed := 0,
        safeFor := none }
    let idle : State := { s with monitor := { s.monitor with duty := .none, window := none } }
    let ramp := fun c : Context =>
      { idle with
        shift :=
          { s.shift with
            array := .shifting c, timer := { counter := s.settings.stepPeriod, running := true } } }
    ((∃ k ∈ set, s.live k ≠ ⟨0, 0⟩) → beginTransition st s = ramp context)
    ∧ (set = [] →
      beginTransition st s =
        ramp
          { context with
            phase := .cross, stepTotal := some h.ramp, endB := tab fun k => (s.record st.target).weightFor k })
    ∧ (set ≠ [] → (∀ k ∈ set, s.live k = ⟨0, 0⟩) → (∀ k ∈ set, (s.net k).state ≠ .jammed) →
      beginTransition st s =
        { idle with
          shift :=
            { s.shift with array := .shifting { context with phase := .switch, stepTotal := none } }
          nets := tab fun k =>
            if k ∈ set then
              match (s.net k).state with
              | .settled q =>
                { state := .moving ((s.record st.target).wanted k) q,
                  commanded := some ((s.record st.target).wanted k), travelTimer := 0,
                  lastTravel := (s.net k).lastTravel }
              | _ => { s.net k with commanded := some ((s.record st.target).wanted k) }
            else s.net k })

/-- Shift is refused BAD_VALUE, BAD_STATE or NOT_USABLE in that order, and otherwise offers a MANUAL order: ACCEPTED
with whether it merged and the orders waiting after it, or QUEUE_FULL. Shift Cancel removes every routine order, with
no notice, and returns their number (R57, R58, R60). -/
def Obligations.Shift_and_cancel : Prop :=
  ∀ (s : State) (p : Port) (tag : Byte), s.admits p →
    (∀ pattern : Byte, 8 ≤ pattern.toNat →
      exec (.shift p tag pattern) s = .next (placeReply p 15 tag (refuse .badValue) s))
    ∧ (∀ q : Slot,
      let order : Order := { target := some q, cause := .manual, origin := .port p }
      let merged := ∃ x ∈ s.shift.queue.getLast?, x.target = some q
      let after := offerOrder order s
      exec (.shift p tag (BitVec.ofNat 8 q.val)) s = .next (
        if (s.record q).isReady = false then placeReply p 15 tag (refuse .badState) s
        else if s.usable q = false then placeReply p 15 tag (refuse .notUsable) s
        else if merged then
          placeReply p 15 tag { code := .accepted, reason := none, values := u8 1 ++ u8 s.shift.queue.length } s
        else if 4 ≤ s.shift.queue.length then placeReply p 15 tag (refuse .queueFull) s
        else
          placeReply p 15 tag
            { code := .accepted, reason := none, values := u8 0 ++ u8 after.shift.queue.length } after))
    ∧ exec (.shiftCancel p tag) s = .next (
      let kept := s.shift.queue.filter fun o => o.cause == .fallback || o.cause == .abort || o.cause == .safe
      placeReply p 16 tag (replyOk (u8 (s.shift.queue.length - kept.length)))
        { s with shift := { s.shift with queue := kept } })

/-- Abort outside SHIFTING and in a safe drop is refused BAD_STATE. Otherwise the transition ends where it stands with
SHIFT_FAILED ABORTED, a full queue loses its tail order with ORDER_DISCARDED, and the request is answered OK. With no
source and every live weight zero, the array takes its prior state at once and the queue is examined; with some weight
left, it drops to zero as an ABORT from the requesting port. With a source that is usable, an ABORT transition toward
it begins; with one that is not, SHIFT_FAILED NOT_USABLE is raised and the failure is handled (R41, R59, R62, R76, R77,
R78). That a prior state of STEADY, which R55 never joins to a source of none, would end in NO_PATTERN, that a step timer
stopped with its counter at 0 is reloaded, and that the switch wait is 0 before SWITCH begins are the model's choices, log
entries 22, 20 and 23. -/
def Obligations.Abort_rules : Prop :=
  ∀ (s : State) (p : Port) (tag : Byte), s.admits p →
    (s.shifting = false → exec (.abort p tag) s = .next (placeReply p 17 tag (refuse .badState) s))
    ∧ ∀ c, s.shift.array = .shifting c →
      (c.cause = .safe → exec (.abort p tag) s = .next (placeReply p 17 tag (refuse .badState) s))
      ∧ (c.cause ≠ .safe →
        let ended : State := raise (.shiftFailed c.target .aborted none)
          { s with
            nets := tab fun k => { s.net k with commanded := none }
            monitor := { s.monitor with duty := .none, window := none }
            shift :=
              { s.shift with
                timer :=
                  { counter := if s.shift.timer.counter = 0 then s.settings.stepPeriod else s.shift.timer.counter
                    running := false } } }
        let room : State :=
          if s.shift.queue.length < 4 then ended
          else
            match s.shift.queue.getLast? with
            | some o => (raise (.orderDiscarded o.target o.cause o.origin) ended).setQueue s.shift.queue.dropLast
            | none => ended
        let answer := fun t : State =>
          (Host.Outcome.next (placeReply p 17 tag (replyOk []) t) : Host.Outcome State Fault Refusal)
        (c.source = none → s.allZero = true →
          exec (.abort p tag) s = answer (examineQueue (raise (.shiftDone none .abort 0)
            { room with
              shift :=
                { room.shift with
                  array := match c.prior with | .safe => .safe | _ => .noPattern
                  timer := { counter := s.settings.stepPeriod, running := false } } })))
        ∧ (c.source = none → s.allZero = false →
          exec (.abort p tag) s = answer
            { room with
              shift :=
                { room.shift with
                  array := .shifting
                    { source := none, prior := c.prior, target := none, cause := .abort, origin := some (.port p),
                      phase := .drop, switchSet := [], stepCount := 0, stepTotal := some s.settings.dropLength,
                      startA := s.engine.live, endB := Vector.replicate 12 ⟨0, 0⟩, switchWait := 0, verifyUsed := 0,
                      safeFor := none }
                  timer := { counter := s.settings.stepPeriod, running := true } } })
        ∧ ∀ q, c.source = some q →
          exec (.abort p tag) s = answer (
            if s.usable q = true then
              beginTransition
                { source := some q, prior := c.prior, target := q, cause := .abort, origin := .port p } room
            else
              handleFailure
                { kind := .transition, pattern := q, reason := .notUsable, tower := none, cause := some .abort,
                  source := some q, prior := c.prior }
                (raise (.shiftFailed (some q) .notUsable none) room)))

/-! ### Tower requests (R125, R126) -/

/-- Tower Lockout tests the operands, MOVING, use by a pattern, and the lockout itself in that order; turned on, it
forces the weight to (0, 0) and takes the tower out of a transition in flight. Tower Restore clears the causes of a
present tower whose PA is OK and whose network is SETTLED, and returns them (R26, R74, R125, R126). That a restore of a
tower with no cause returns the empty set, as a set with no bit set, is the model's reading, log entry 28. -/
def Obligations.Tower_lockout_and_restore : Prop :=
  ∀ (s : State) (p : Port) (tag tower value : Byte), s.admits p →
    (tower = 0 ∨ s.settings.arraySize < tower.toNat →
      exec (.towerLockout p tag tower value) s = .next (placeReply p 18 tag (refuse .badValue) s)
        ∧ exec (.towerRestore p tag tower) s = .next (placeReply p 19 tag (refuse .badValue) s))
    ∧ ∀ k : Tower, k.val < s.settings.arraySize → tower.toNat = k.val + 1 →
      let e := s.tower k
      let locked :=
        (s.setTower k { e with lockout := true }).setLive (s.engine.live.set k ⟨0, 0⟩)
      (1 < value.toNat →
        exec (.towerLockout p tag tower value) s = .next (placeReply p 18 tag (refuse .badValue) s))
      ∧ (value = 0 →
        exec (.towerLockout p tag tower value) s =
          .next (placeReply p 18 tag (replyOk (flag e.lockout ++ u8 0)) (s.setTower k { e with lockout := false })))
      ∧ (value = 1 →
        exec (.towerLockout p tag tower value) s = .next (
          if (s.net k).state.isMoving = true then placeReply p 18 tag (refuse .busy) s
          else if s.drivenInUse k = true then placeReply p 18 tag (refuse .inUse) s
          else if e.lockout = true then placeReply p 18 tag (replyOk (u8 1 ++ u8 1)) s
          else
            placeReply p 18 tag (replyOk (u8 0 ++ u8 1))
              (match s.shift.array with
              | .shifting c =>
                endSwitchIfDone
                  ((if k ∈ c.switchSet then setCommanded k none locked else locked).setArray (.shifting
                    { c with
                      startA := c.startA.set k ⟨0, 0⟩, switchSet := c.switchSet.filter fun j => j != k }))
              | _ => locked)))
      ∧ exec (.towerRestore p tag tower) s = .next (
        if e.paFault = true ∨ e.present = false ∨ ¬(∃ q, (s.net k).state = .settled q) then
          placeReply p 19 tag (refuse .badState) s
        else placeReply p 19 tag (replyOk (causeSet e.causes)) (s.setTower k { e with causes := Causes.none }))

/-! ### Time, schedule, contacts and sources (R137, R138, R149 to R151, R158) -/

/-- Time Set sets the clock of day and returns it as it stood; a second above 86399 or a weekday above 6 is refused
BAD_VALUE, and no entry fires. Schedule Add tests its operands, the time and the room in that order and puts the entry
in its place; Schedule Delete, Schedule Clear and Schedule Hold remove entries or hold the table, with the replies of
R151 (R149, R150, R151). -/
def Obligations.Time_and_schedule_requests : Prop :=
  (∀ (s : State) (p : Port) (tag : Byte) (second : Triple) (weekday : Byte), s.admits p →
    let before :=
      u8 (match s.timebase.clock with | .unset => 0 | .running => 1) ++ u24 s.timebase.second
        ++ u8 s.timebase.weekday.val
    exec (.timeSet p tag second weekday) s = .next (
      if h : second.toNat ≤ 86399 ∧ weekday.toNat < 7 then
        placeReply p 21 tag (replyOk before)
          { s with
            timebase :=
              { s.timebase with
                clock := .running, second := second.toNat, weekday := ⟨weekday.toNat, h.2⟩, subsecond := 0 } }
      else placeReply p 21 tag (refuse .badValue) s))
  ∧ ∀ (s : State) (p : Port) (tag : Byte), s.admits p → s.TimeLaw →
    let es := s.schedule.entries
    (∀ (time : Triple) (days pattern : Byte),
      (86399 < time.toNat ∨ days = 0 ∨ 128 ≤ days.toNat ∨ 8 ≤ pattern.toNat →
        exec (.scheduleAdd p tag time days pattern) s = .next (placeReply p 22 tag (refuse .badValue) s))
      ∧ ∀ q : Slot, time.toNat ≤ 86399 → days ≠ 0 → days.toNat < 128 → pattern.toNat = q.val →
        ((∃ e ∈ es, e.time = time.toNat) →
          exec (.scheduleAdd p tag time days pattern) s = .next (placeReply p 22 tag (refuse .duplicate) s))
        ∧ ((∀ e ∈ es, e.time ≠ time.toNat) → es.length = 24 →
          exec (.scheduleAdd p tag time days pattern) s = .next (placeReply p 22 tag (refuse .tableFull) s))
        ∧ ((∀ e ∈ es, e.time ≠ time.toNat) → es.length < 24 →
          let before := es.filter fun e => e.time < time.toNat
          let after := es.filter fun e => time.toNat < e.time
          exec (.scheduleAdd p tag time days pattern) s = .next (placeReply p 22 tag
            (replyOk (u8 (before.length + 1) ++ u8 (es.length + 1)))
            { s with
              schedule :=
                { s.schedule with
                  entries :=
                    before ++ [{ time := time.toNat, days := BitVec.ofNat 7 days.toNat, pattern := q }] ++ after } })))
    ∧ (∀ time : Triple, exec (.scheduleDelete p tag time) s = .next (
      let left := es.filter fun e => e.time != time.toNat
      if 86399 < time.toNat then placeReply p 23 tag (refuse .badValue) s
      else if ∃ e ∈ es, e.time = time.toNat then
        placeReply p 23 tag (replyOk (u8 left.length)) { s with schedule := { s.schedule with entries := left } }
      else placeReply p 23 tag (refuse .notFound) s))
    ∧ exec (.scheduleClear p tag) s = .next (placeReply p 24 tag (replyOk (u8 es.length))
      { s with schedule := { s.schedule with entries := [] } })
    ∧ ∀ value : Byte, exec (.scheduleHold p tag value) s = .next (
      if value.toNat ≤ 1 then
        placeReply p 25 tag (replyOk (flag s.schedule.hold))
          { s with schedule := { s.schedule with hold := value == 1 } }
      else placeReply p 25 tag (refuse .badValue) s)

/-- Contact Setup replaces a line's sense and action, takes its debounced level from its present level under the new
sense, and clears its count; mute follows the new configuration at once; no shift order follows. Operands out of range
are refused BAD_VALUE, a pattern only where the action uses it (R158). The level at which a line stands between two
ticks comes with the tick before it, and the code of the level in the reply is the model's reading: log entries 3 and
13. -/
def Obligations.Contact_setup : Prop :=
  ∀ (s : State) (p : Port) (tag line sense action x y : Byte), s.admits p →
    (line = 0 ∨ 4 < line.toNat ∨ 1 < sense.toNat ∨ 3 < action.toNat ∨ (action = 1 ∧ 7 < x.toNat)
        ∨ (action = 2 ∧ (7 < x.toNat ∨ 7 < y.toNat)) →
      exec (.contactSetup p tag line sense action x y) s = .next (placeReply p 27 tag (refuse .badValue) s))
    ∧ ∀ (l : Line) (n : Sense) (a : Action), line.toNat = l.val + 1 →
      sense = (match n with | .activeHigh => 0 | .activeLow => 1) →
      (match a with
        | .none => action = 0
        | .shiftOnActive q => action = 1 ∧ x.toNat = q.val
        | .shiftPair q r => action = 2 ∧ x.toNat = q.val ∧ y.toNat = r.val
        | .mute => action = 3) →
      let level := match n with | .activeHigh => (s.line l).pin | .activeLow => !(s.line l).pin
      let t := s.setLine l
        { sense := n, action := a, active := level, count := 0, input := (s.line l).input, pin := (s.line l).pin }
      exec (.contactSetup p tag line sense action x y) s = .next (placeReply p 27 tag
        (replyOk (u8 (if level then 0 else 1))) (if t.mute = s.mute then t else restartWindow t))

/-- The four sub-functions of Source Control, each with the selector and the bars as they stand after it in its reply.
Force owner on the port that is the owner is accepted before the barred and presence tests: the model's reading, log
entry 7. Port A's flag comes before port B's in the reply: the model's choice, log entry 24 (R133, R134, R137, R138). -/
def Obligations.Source_control : Prop :=
  ∀ (s : State) (p : Port) (tag operand : Byte), s.admits p →
    let answer := fun y : State =>
      (Host.Outcome.next (placeReply p 28 tag
        (replyOk (selectorBytes y.selector ++ flag y.portA.barred ++ flag y.portB.barred)) y) :
        Host.Outcome State Fault Refusal)
    let change := fun (x : Port) (y : State) =>
      raise (.changeover x)
        { y with
          selector := { y.selector with owner := x, condition := .live }
          buffer := { s.buffer with fifo := [], state := .priming } }
    (1 < operand.toNat →
      let turned := Host.Outcome.next (placeReply p 28 tag (refuse .badValue) s)
      exec (.setPreferredPort p tag operand) s = turned ∧ exec (.setChangeoverMode p tag operand) s = turned
        ∧ exec (.clearBar p tag operand) s = turned ∧ exec (.forceOwner p tag operand) s = turned)
    ∧ ∀ x : Port, operand = (match x with | .A => 0 | .B => 1) →
      exec (.setPreferredPort p tag operand) s = answer { s with selector := { s.selector with preferred := x } }
      ∧ (let mode := match x with | .A => ChangeoverMode.auto | .B => ChangeoverMode.manual
        let other := s.selector.owner.other
        let y : State := { s with selector := { s.selector with mode := mode } }
        exec (.setChangeoverMode p tag operand) s =
          if s.selector.mode ≠ mode ∧ mode = .auto ∧ s.selector.condition = .lost ∧ (s.port other).present = true
              ∧ (s.port other).barred = false then
            answer (change other y)
          else answer y)
      ∧ (let y := s.setPort x { s.port x with barred := false }
        exec (.clearBar p tag operand) s =
          if (s.port x).barred = true ∧ x ≠ s.selector.owner ∧ s.selector.mode = .auto ∧ s.selector.condition = .lost
              ∧ (s.port x).present = true then
            answer (change x y)
          else answer y)
      ∧ exec (.forceOwner p tag operand) s =
        if x = s.selector.owner then answer s
        else if (s.port x).barred = true ∨ (s.port x).present = false then
          .next (placeReply p 28 tag (refuse .badState) s)
        else answer (change x s)

/-! ### Laws that every step keeps -/

/-- The ranges of the settings, the law of entry lists, the law of READY records, the law that patterns in use are
READY, the law of the array state and that of the monitor's duty, taken together, are kept by every step (R2, R3, R4,
R11, R20, R27, R52, R54, R84, R165). -/
def Obligations.Power_invariant_kept : Prop :=
  ∀ s t : State, s.PowerInvariant → step s = .next t → t.PowerInvariant

/-- Where that invariant holds the live raw power is within the ceiling, and in STEADY within the live pattern's cap
(R28). -/
def Obligations.Power_law_follows : Prop := ∀ s : State, s.PowerInvariant → s.PowerLaw

/-- A tower under the zero hold has live weight (0, 0), a network record above ARRAY_SIZE is UNKNOWN, and a JAMMED one
stands with its cause: every step keeps these (R26, R38, R43, R51). -/
def Obligations.Zero_hold_and_network_laws_kept : Prop :=
  ∀ s t : State, s.ZeroHoldLaw → s.NetworkLaw → step s = .next t → t.ZeroHoldLaw ∧ t.NetworkLaw

/-- The queue holds at most 4 orders, routine orders alone, no two neighbours with one target: every step keeps this
(R56, R57, R59). -/
def Obligations.Queue_law_kept : Prop := ∀ s t : State, s.QueueLaw → step s = .next t → t.QueueLaw

/-- The counters, ages and monitor fields, the buffer, the clock and the Schedule Table keep their ranges and orders at
every step, and with legal settings the step timer's counter stays within 1 to 16, but for a running one between the tick
at which it reaches 0 and its expiry (R31, R64, R83, R95, R117, R131, R139, R143, R148, R150; that moment is the model's
choice, log entry 20). -/
def Obligations.Counter_and_time_laws_kept : Prop :=
  ∀ s t : State, step s = .next t →
    (s.CounterLaw → s.TimeLaw → t.CounterLaw ∧ t.TimeLaw) ∧ (s.settings.Legal → s.StepTimerLaw → t.StepTimerLaw)
end

