-- ==== Sys2Proof/Laws/State.lean ====
section
/-! SUPPORT. One lemma for each field of each named write of the state, so that no later proof unfolds a record
update; the last part reads back one entry of a table after a write of one. -/

namespace Sys2Proof.Machine

variable (s : State)

/-! ### setRecord -/

@[simp] theorem setRecord_settings (p : Slot) (r : PatternRecord) : (s.setRecord p r).settings = s.settings := rfl
@[simp] theorem setRecord_patterns (p : Slot) (r : PatternRecord) : (s.setRecord p r).patterns = s.patterns.set p r := rfl
@[simp] theorem setRecord_engine (p : Slot) (r : PatternRecord) : (s.setRecord p r).engine = s.engine := rfl
@[simp] theorem setRecord_nets (p : Slot) (r : PatternRecord) : (s.setRecord p r).nets = s.nets := rfl
@[simp] theorem setRecord_shift (p : Slot) (r : PatternRecord) : (s.setRecord p r).shift = s.shift := rfl
@[simp] theorem setRecord_monitor (p : Slot) (r : PatternRecord) : (s.setRecord p r).monitor = s.monitor := rfl
@[simp] theorem setRecord_link (p : Slot) (r : PatternRecord) : (s.setRecord p r).link = s.link := rfl
@[simp] theorem setRecord_portA (p : Slot) (r : PatternRecord) : (s.setRecord p r).portA = s.portA := rfl
@[simp] theorem setRecord_portB (p : Slot) (r : PatternRecord) : (s.setRecord p r).portB = s.portB := rfl
@[simp] theorem setRecord_selector (p : Slot) (r : PatternRecord) : (s.setRecord p r).selector = s.selector := rfl
@[simp] theorem setRecord_buffer (p : Slot) (r : PatternRecord) : (s.setRecord p r).buffer = s.buffer := rfl
@[simp] theorem setRecord_timebase (p : Slot) (r : PatternRecord) : (s.setRecord p r).timebase = s.timebase := rfl
@[simp] theorem setRecord_schedule (p : Slot) (r : PatternRecord) : (s.setRecord p r).schedule = s.schedule := rfl
@[simp] theorem setRecord_lines (p : Slot) (r : PatternRecord) : (s.setRecord p r).lines = s.lines := rfl
@[simp] theorem setRecord_notices (p : Slot) (r : PatternRecord) : (s.setRecord p r).notices = s.notices := rfl
@[simp] theorem setRecord_due (p : Slot) (r : PatternRecord) : (s.setRecord p r).due = s.due := rfl
@[simp] theorem setRecord_pending (p : Slot) (r : PatternRecord) : (s.setRecord p r).pending = s.pending := rfl

/-! ### setNet -/

@[simp] theorem setNet_settings (t : Tower) (r : NetRecord) : (s.setNet t r).settings = s.settings := rfl
@[simp] theorem setNet_patterns (t : Tower) (r : NetRecord) : (s.setNet t r).patterns = s.patterns := rfl
@[simp] theorem setNet_engine (t : Tower) (r : NetRecord) : (s.setNet t r).engine = s.engine := rfl
@[simp] theorem setNet_nets (t : Tower) (r : NetRecord) : (s.setNet t r).nets = s.nets.set t r := rfl
@[simp] theorem setNet_shift (t : Tower) (r : NetRecord) : (s.setNet t r).shift = s.shift := rfl
@[simp] theorem setNet_monitor (t : Tower) (r : NetRecord) : (s.setNet t r).monitor = s.monitor := rfl
@[simp] theorem setNet_link (t : Tower) (r : NetRecord) : (s.setNet t r).link = s.link := rfl
@[simp] theorem setNet_portA (t : Tower) (r : NetRecord) : (s.setNet t r).portA = s.portA := rfl
@[simp] theorem setNet_portB (t : Tower) (r : NetRecord) : (s.setNet t r).portB = s.portB := rfl
@[simp] theorem setNet_selector (t : Tower) (r : NetRecord) : (s.setNet t r).selector = s.selector := rfl
@[simp] theorem setNet_buffer (t : Tower) (r : NetRecord) : (s.setNet t r).buffer = s.buffer := rfl
@[simp] theorem setNet_timebase (t : Tower) (r : NetRecord) : (s.setNet t r).timebase = s.timebase := rfl
@[simp] theorem setNet_schedule (t : Tower) (r : NetRecord) : (s.setNet t r).schedule = s.schedule := rfl
@[simp] theorem setNet_lines (t : Tower) (r : NetRecord) : (s.setNet t r).lines = s.lines := rfl
@[simp] theorem setNet_notices (t : Tower) (r : NetRecord) : (s.setNet t r).notices = s.notices := rfl
@[simp] theorem setNet_due (t : Tower) (r : NetRecord) : (s.setNet t r).due = s.due := rfl
@[simp] theorem setNet_pending (t : Tower) (r : NetRecord) : (s.setNet t r).pending = s.pending := rfl

/-! ### setTower -/

@[simp] theorem setTower_settings (t : Tower) (e : TowerEntry) : (s.setTower t e).settings = s.settings := rfl
@[simp] theorem setTower_patterns (t : Tower) (e : TowerEntry) : (s.setTower t e).patterns = s.patterns := rfl
@[simp] theorem setTower_engine (t : Tower) (e : TowerEntry) : (s.setTower t e).engine = s.engine := rfl
@[simp] theorem setTower_nets (t : Tower) (e : TowerEntry) : (s.setTower t e).nets = s.nets := rfl
@[simp] theorem setTower_shift (t : Tower) (e : TowerEntry) : (s.setTower t e).shift = s.shift := rfl
@[simp] theorem setTower_monitor (t : Tower) (e : TowerEntry) : (s.setTower t e).monitor = s.monitor := rfl
@[simp] theorem setTower_link (t : Tower) (e : TowerEntry) : (s.setTower t e).link = { s.link with towers := s.link.towers.set t e } := rfl
@[simp] theorem setTower_portA (t : Tower) (e : TowerEntry) : (s.setTower t e).portA = s.portA := rfl
@[simp] theorem setTower_portB (t : Tower) (e : TowerEntry) : (s.setTower t e).portB = s.portB := rfl
@[simp] theorem setTower_selector (t : Tower) (e : TowerEntry) : (s.setTower t e).selector = s.selector := rfl
@[simp] theorem setTower_buffer (t : Tower) (e : TowerEntry) : (s.setTower t e).buffer = s.buffer := rfl
@[simp] theorem setTower_timebase (t : Tower) (e : TowerEntry) : (s.setTower t e).timebase = s.timebase := rfl
@[simp] theorem setTower_schedule (t : Tower) (e : TowerEntry) : (s.setTower t e).schedule = s.schedule := rfl
@[simp] theorem setTower_lines (t : Tower) (e : TowerEntry) : (s.setTower t e).lines = s.lines := rfl
@[simp] theorem setTower_notices (t : Tower) (e : TowerEntry) : (s.setTower t e).notices = s.notices := rfl
@[simp] theorem setTower_due (t : Tower) (e : TowerEntry) : (s.setTower t e).due = s.due := rfl
@[simp] theorem setTower_pending (t : Tower) (e : TowerEntry) : (s.setTower t e).pending = s.pending := rfl

/-! ### setLine -/

@[simp] theorem setLine_settings (l : Line) (c : ContactLine) : (s.setLine l c).settings = s.settings := rfl
@[simp] theorem setLine_patterns (l : Line) (c : ContactLine) : (s.setLine l c).patterns = s.patterns := rfl
@[simp] theorem setLine_engine (l : Line) (c : ContactLine) : (s.setLine l c).engine = s.engine := rfl
@[simp] theorem setLine_nets (l : Line) (c : ContactLine) : (s.setLine l c).nets = s.nets := rfl
@[simp] theorem setLine_shift (l : Line) (c : ContactLine) : (s.setLine l c).shift = s.shift := rfl
@[simp] theorem setLine_monitor (l : Line) (c : ContactLine) : (s.setLine l c).monitor = s.monitor := rfl
@[simp] theorem setLine_link (l : Line) (c : ContactLine) : (s.setLine l c).link = s.link := rfl
@[simp] theorem setLine_portA (l : Line) (c : ContactLine) : (s.setLine l c).portA = s.portA := rfl
@[simp] theorem setLine_portB (l : Line) (c : ContactLine) : (s.setLine l c).portB = s.portB := rfl
@[simp] theorem setLine_selector (l : Line) (c : ContactLine) : (s.setLine l c).selector = s.selector := rfl
@[simp] theorem setLine_buffer (l : Line) (c : ContactLine) : (s.setLine l c).buffer = s.buffer := rfl
@[simp] theorem setLine_timebase (l : Line) (c : ContactLine) : (s.setLine l c).timebase = s.timebase := rfl
@[simp] theorem setLine_schedule (l : Line) (c : ContactLine) : (s.setLine l c).schedule = s.schedule := rfl
@[simp] theorem setLine_lines (l : Line) (c : ContactLine) : (s.setLine l c).lines = s.lines.set l c := rfl
@[simp] theorem setLine_notices (l : Line) (c : ContactLine) : (s.setLine l c).notices = s.notices := rfl
@[simp] theorem setLine_due (l : Line) (c : ContactLine) : (s.setLine l c).due = s.due := rfl
@[simp] theorem setLine_pending (l : Line) (c : ContactLine) : (s.setLine l c).pending = s.pending := rfl

/-! ### setNoticeSource -/

@[simp] theorem setNoticeSource_settings (i : Fin 13) (n : NoticeSource) : (s.setNoticeSource i n).settings = s.settings := rfl
@[simp] theorem setNoticeSource_patterns (i : Fin 13) (n : NoticeSource) : (s.setNoticeSource i n).patterns = s.patterns := rfl
@[simp] theorem setNoticeSource_engine (i : Fin 13) (n : NoticeSource) : (s.setNoticeSource i n).engine = s.engine := rfl
@[simp] theorem setNoticeSource_nets (i : Fin 13) (n : NoticeSource) : (s.setNoticeSource i n).nets = s.nets := rfl
@[simp] theorem setNoticeSource_shift (i : Fin 13) (n : NoticeSource) : (s.setNoticeSource i n).shift = s.shift := rfl
@[simp] theorem setNoticeSource_monitor (i : Fin 13) (n : NoticeSource) : (s.setNoticeSource i n).monitor = s.monitor := rfl
@[simp] theorem setNoticeSource_link (i : Fin 13) (n : NoticeSource) : (s.setNoticeSource i n).link = s.link := rfl
@[simp] theorem setNoticeSource_portA (i : Fin 13) (n : NoticeSource) : (s.setNoticeSource i n).portA = s.portA := rfl
@[simp] theorem setNoticeSource_portB (i : Fin 13) (n : NoticeSource) : (s.setNoticeSource i n).portB = s.portB := rfl
@[simp] theorem setNoticeSource_selector (i : Fin 13) (n : NoticeSource) : (s.setNoticeSource i n).selector = s.selector := rfl
@[simp] theorem setNoticeSource_buffer (i : Fin 13) (n : NoticeSource) : (s.setNoticeSource i n).buffer = s.buffer := rfl
@[simp] theorem setNoticeSource_timebase (i : Fin 13) (n : NoticeSource) : (s.setNoticeSource i n).timebase = s.timebase := rfl
@[simp] theorem setNoticeSource_schedule (i : Fin 13) (n : NoticeSource) : (s.setNoticeSource i n).schedule = s.schedule := rfl
@[simp] theorem setNoticeSource_lines (i : Fin 13) (n : NoticeSource) : (s.setNoticeSource i n).lines = s.lines := rfl
@[simp] theorem setNoticeSource_notices (i : Fin 13) (n : NoticeSource) : (s.setNoticeSource i n).notices = s.notices.set i n := rfl
@[simp] theorem setNoticeSource_due (i : Fin 13) (n : NoticeSource) : (s.setNoticeSource i n).due = s.due := rfl
@[simp] theorem setNoticeSource_pending (i : Fin 13) (n : NoticeSource) : (s.setNoticeSource i n).pending = s.pending := rfl

/-! ### setLive -/

@[simp] theorem setLive_settings (w : Vector Cpx 12) : (s.setLive w).settings = s.settings := rfl
@[simp] theorem setLive_patterns (w : Vector Cpx 12) : (s.setLive w).patterns = s.patterns := rfl
@[simp] theorem setLive_engine (w : Vector Cpx 12) : (s.setLive w).engine = { s.engine with live := w } := rfl
@[simp] theorem setLive_nets (w : Vector Cpx 12) : (s.setLive w).nets = s.nets := rfl
@[simp] theorem setLive_shift (w : Vector Cpx 12) : (s.setLive w).shift = s.shift := rfl
@[simp] theorem setLive_monitor (w : Vector Cpx 12) : (s.setLive w).monitor = s.monitor := rfl
@[simp] theorem setLive_link (w : Vector Cpx 12) : (s.setLive w).link = s.link := rfl
@[simp] theorem setLive_portA (w : Vector Cpx 12) : (s.setLive w).portA = s.portA := rfl
@[simp] theorem setLive_portB (w : Vector Cpx 12) : (s.setLive w).portB = s.portB := rfl
@[simp] theorem setLive_selector (w : Vector Cpx 12) : (s.setLive w).selector = s.selector := rfl
@[simp] theorem setLive_buffer (w : Vector Cpx 12) : (s.setLive w).buffer = s.buffer := rfl
@[simp] theorem setLive_timebase (w : Vector Cpx 12) : (s.setLive w).timebase = s.timebase := rfl
@[simp] theorem setLive_schedule (w : Vector Cpx 12) : (s.setLive w).schedule = s.schedule := rfl
@[simp] theorem setLive_lines (w : Vector Cpx 12) : (s.setLive w).lines = s.lines := rfl
@[simp] theorem setLive_notices (w : Vector Cpx 12) : (s.setLive w).notices = s.notices := rfl
@[simp] theorem setLive_due (w : Vector Cpx 12) : (s.setLive w).due = s.due := rfl
@[simp] theorem setLive_pending (w : Vector Cpx 12) : (s.setLive w).pending = s.pending := rfl

/-! ### setArray -/

@[simp] theorem setArray_settings (a : ArrayState) : (s.setArray a).settings = s.settings := rfl
@[simp] theorem setArray_patterns (a : ArrayState) : (s.setArray a).patterns = s.patterns := rfl
@[simp] theorem setArray_engine (a : ArrayState) : (s.setArray a).engine = s.engine := rfl
@[simp] theorem setArray_nets (a : ArrayState) : (s.setArray a).nets = s.nets := rfl
@[simp] theorem setArray_shift (a : ArrayState) : (s.setArray a).shift = { s.shift with array := a } := rfl
@[simp] theorem setArray_monitor (a : ArrayState) : (s.setArray a).monitor = s.monitor := rfl
@[simp] theorem setArray_link (a : ArrayState) : (s.setArray a).link = s.link := rfl
@[simp] theorem setArray_portA (a : ArrayState) : (s.setArray a).portA = s.portA := rfl
@[simp] theorem setArray_portB (a : ArrayState) : (s.setArray a).portB = s.portB := rfl
@[simp] theorem setArray_selector (a : ArrayState) : (s.setArray a).selector = s.selector := rfl
@[simp] theorem setArray_buffer (a : ArrayState) : (s.setArray a).buffer = s.buffer := rfl
@[simp] theorem setArray_timebase (a : ArrayState) : (s.setArray a).timebase = s.timebase := rfl
@[simp] theorem setArray_schedule (a : ArrayState) : (s.setArray a).schedule = s.schedule := rfl
@[simp] theorem setArray_lines (a : ArrayState) : (s.setArray a).lines = s.lines := rfl
@[simp] theorem setArray_notices (a : ArrayState) : (s.setArray a).notices = s.notices := rfl
@[simp] theorem setArray_due (a : ArrayState) : (s.setArray a).due = s.due := rfl
@[simp] theorem setArray_pending (a : ArrayState) : (s.setArray a).pending = s.pending := rfl

/-! ### setQueue -/

@[simp] theorem setQueue_settings (q : List Order) : (s.setQueue q).settings = s.settings := rfl
@[simp] theorem setQueue_patterns (q : List Order) : (s.setQueue q).patterns = s.patterns := rfl
@[simp] theorem setQueue_engine (q : List Order) : (s.setQueue q).engine = s.engine := rfl
@[simp] theorem setQueue_nets (q : List Order) : (s.setQueue q).nets = s.nets := rfl
@[simp] theorem setQueue_shift (q : List Order) : (s.setQueue q).shift = { s.shift with queue := q } := rfl
@[simp] theorem setQueue_monitor (q : List Order) : (s.setQueue q).monitor = s.monitor := rfl
@[simp] theorem setQueue_link (q : List Order) : (s.setQueue q).link = s.link := rfl
@[simp] theorem setQueue_portA (q : List Order) : (s.setQueue q).portA = s.portA := rfl
@[simp] theorem setQueue_portB (q : List Order) : (s.setQueue q).portB = s.portB := rfl
@[simp] theorem setQueue_selector (q : List Order) : (s.setQueue q).selector = s.selector := rfl
@[simp] theorem setQueue_buffer (q : List Order) : (s.setQueue q).buffer = s.buffer := rfl
@[simp] theorem setQueue_timebase (q : List Order) : (s.setQueue q).timebase = s.timebase := rfl
@[simp] theorem setQueue_schedule (q : List Order) : (s.setQueue q).schedule = s.schedule := rfl
@[simp] theorem setQueue_lines (q : List Order) : (s.setQueue q).lines = s.lines := rfl
@[simp] theorem setQueue_notices (q : List Order) : (s.setQueue q).notices = s.notices := rfl
@[simp] theorem setQueue_due (q : List Order) : (s.setQueue q).due = s.due := rfl
@[simp] theorem setQueue_pending (q : List Order) : (s.setQueue q).pending = s.pending := rfl

/-! ### setTimer -/

@[simp] theorem setTimer_settings (x : StepTimer) : (s.setTimer x).settings = s.settings := rfl
@[simp] theorem setTimer_patterns (x : StepTimer) : (s.setTimer x).patterns = s.patterns := rfl
@[simp] theorem setTimer_engine (x : StepTimer) : (s.setTimer x).engine = s.engine := rfl
@[simp] theorem setTimer_nets (x : StepTimer) : (s.setTimer x).nets = s.nets := rfl
@[simp] theorem setTimer_shift (x : StepTimer) : (s.setTimer x).shift = { s.shift with timer := x } := rfl
@[simp] theorem setTimer_monitor (x : StepTimer) : (s.setTimer x).monitor = s.monitor := rfl
@[simp] theorem setTimer_link (x : StepTimer) : (s.setTimer x).link = s.link := rfl
@[simp] theorem setTimer_portA (x : StepTimer) : (s.setTimer x).portA = s.portA := rfl
@[simp] theorem setTimer_portB (x : StepTimer) : (s.setTimer x).portB = s.portB := rfl
@[simp] theorem setTimer_selector (x : StepTimer) : (s.setTimer x).selector = s.selector := rfl
@[simp] theorem setTimer_buffer (x : StepTimer) : (s.setTimer x).buffer = s.buffer := rfl
@[simp] theorem setTimer_timebase (x : StepTimer) : (s.setTimer x).timebase = s.timebase := rfl
@[simp] theorem setTimer_schedule (x : StepTimer) : (s.setTimer x).schedule = s.schedule := rfl
@[simp] theorem setTimer_lines (x : StepTimer) : (s.setTimer x).lines = s.lines := rfl
@[simp] theorem setTimer_notices (x : StepTimer) : (s.setTimer x).notices = s.notices := rfl
@[simp] theorem setTimer_due (x : StepTimer) : (s.setTimer x).due = s.due := rfl
@[simp] theorem setTimer_pending (x : StepTimer) : (s.setTimer x).pending = s.pending := rfl

/-! ### setFlag -/

@[simp] theorem setFlag_settings (b : Bool) : (s.setFlag b).settings = s.settings := rfl
@[simp] theorem setFlag_patterns (b : Bool) : (s.setFlag b).patterns = s.patterns := rfl
@[simp] theorem setFlag_engine (b : Bool) : (s.setFlag b).engine = s.engine := rfl
@[simp] theorem setFlag_nets (b : Bool) : (s.setFlag b).nets = s.nets := rfl
@[simp] theorem setFlag_shift (b : Bool) : (s.setFlag b).shift = { s.shift with fallbackFlag := b } := rfl
@[simp] theorem setFlag_monitor (b : Bool) : (s.setFlag b).monitor = s.monitor := rfl
@[simp] theorem setFlag_link (b : Bool) : (s.setFlag b).link = s.link := rfl
@[simp] theorem setFlag_portA (b : Bool) : (s.setFlag b).portA = s.portA := rfl
@[simp] theorem setFlag_portB (b : Bool) : (s.setFlag b).portB = s.portB := rfl
@[simp] theorem setFlag_selector (b : Bool) : (s.setFlag b).selector = s.selector := rfl
@[simp] theorem setFlag_buffer (b : Bool) : (s.setFlag b).buffer = s.buffer := rfl
@[simp] theorem setFlag_timebase (b : Bool) : (s.setFlag b).timebase = s.timebase := rfl
@[simp] theorem setFlag_schedule (b : Bool) : (s.setFlag b).schedule = s.schedule := rfl
@[simp] theorem setFlag_lines (b : Bool) : (s.setFlag b).lines = s.lines := rfl
@[simp] theorem setFlag_notices (b : Bool) : (s.setFlag b).notices = s.notices := rfl
@[simp] theorem setFlag_due (b : Bool) : (s.setFlag b).due = s.due := rfl
@[simp] theorem setFlag_pending (b : Bool) : (s.setFlag b).pending = s.pending := rfl

/-! ### setLastFailure -/

@[simp] theorem setLastFailure_settings (f : LastFailure) : (s.setLastFailure f).settings = s.settings := rfl
@[simp] theorem setLastFailure_patterns (f : LastFailure) : (s.setLastFailure f).patterns = s.patterns := rfl
@[simp] theorem setLastFailure_engine (f : LastFailure) : (s.setLastFailure f).engine = s.engine := rfl
@[simp] theorem setLastFailure_nets (f : LastFailure) : (s.setLastFailure f).nets = s.nets := rfl
@[simp] theorem setLastFailure_shift (f : LastFailure) : (s.setLastFailure f).shift = { s.shift with lastFailure := f } := rfl
@[simp] theorem setLastFailure_monitor (f : LastFailure) : (s.setLastFailure f).monitor = s.monitor := rfl
@[simp] theorem setLastFailure_link (f : LastFailure) : (s.setLastFailure f).link = s.link := rfl
@[simp] theorem setLastFailure_portA (f : LastFailure) : (s.setLastFailure f).portA = s.portA := rfl
@[simp] theorem setLastFailure_portB (f : LastFailure) : (s.setLastFailure f).portB = s.portB := rfl
@[simp] theorem setLastFailure_selector (f : LastFailure) : (s.setLastFailure f).selector = s.selector := rfl
@[simp] theorem setLastFailure_buffer (f : LastFailure) : (s.setLastFailure f).buffer = s.buffer := rfl
@[simp] theorem setLastFailure_timebase (f : LastFailure) : (s.setLastFailure f).timebase = s.timebase := rfl
@[simp] theorem setLastFailure_schedule (f : LastFailure) : (s.setLastFailure f).schedule = s.schedule := rfl
@[simp] theorem setLastFailure_lines (f : LastFailure) : (s.setLastFailure f).lines = s.lines := rfl
@[simp] theorem setLastFailure_notices (f : LastFailure) : (s.setLastFailure f).notices = s.notices := rfl
@[simp] theorem setLastFailure_due (f : LastFailure) : (s.setLastFailure f).due = s.due := rfl
@[simp] theorem setLastFailure_pending (f : LastFailure) : (s.setLastFailure f).pending = s.pending := rfl

/-! ### setDuty -/

@[simp] theorem setDuty_settings (d : Duty) : (s.setDuty d).settings = s.settings := rfl
@[simp] theorem setDuty_patterns (d : Duty) : (s.setDuty d).patterns = s.patterns := rfl
@[simp] theorem setDuty_engine (d : Duty) : (s.setDuty d).engine = s.engine := rfl
@[simp] theorem setDuty_nets (d : Duty) : (s.setDuty d).nets = s.nets := rfl
@[simp] theorem setDuty_shift (d : Duty) : (s.setDuty d).shift = s.shift := rfl
@[simp] theorem setDuty_monitor (d : Duty) : (s.setDuty d).monitor = { s.monitor with duty := d } := rfl
@[simp] theorem setDuty_link (d : Duty) : (s.setDuty d).link = s.link := rfl
@[simp] theorem setDuty_portA (d : Duty) : (s.setDuty d).portA = s.portA := rfl
@[simp] theorem setDuty_portB (d : Duty) : (s.setDuty d).portB = s.portB := rfl
@[simp] theorem setDuty_selector (d : Duty) : (s.setDuty d).selector = s.selector := rfl
@[simp] theorem setDuty_buffer (d : Duty) : (s.setDuty d).buffer = s.buffer := rfl
@[simp] theorem setDuty_timebase (d : Duty) : (s.setDuty d).timebase = s.timebase := rfl
@[simp] theorem setDuty_schedule (d : Duty) : (s.setDuty d).schedule = s.schedule := rfl
@[simp] theorem setDuty_lines (d : Duty) : (s.setDuty d).lines = s.lines := rfl
@[simp] theorem setDuty_notices (d : Duty) : (s.setDuty d).notices = s.notices := rfl
@[simp] theorem setDuty_due (d : Duty) : (s.setDuty d).due = s.due := rfl
@[simp] theorem setDuty_pending (d : Duty) : (s.setDuty d).pending = s.pending := rfl

/-! ### setWindow -/

@[simp] theorem setWindow_settings (w : Option Window) : (s.setWindow w).settings = s.settings := rfl
@[simp] theorem setWindow_patterns (w : Option Window) : (s.setWindow w).patterns = s.patterns := rfl
@[simp] theorem setWindow_engine (w : Option Window) : (s.setWindow w).engine = s.engine := rfl
@[simp] theorem setWindow_nets (w : Option Window) : (s.setWindow w).nets = s.nets := rfl
@[simp] theorem setWindow_shift (w : Option Window) : (s.setWindow w).shift = s.shift := rfl
@[simp] theorem setWindow_monitor (w : Option Window) : (s.setWindow w).monitor = { s.monitor with window := w } := rfl
@[simp] theorem setWindow_link (w : Option Window) : (s.setWindow w).link = s.link := rfl
@[simp] theorem setWindow_portA (w : Option Window) : (s.setWindow w).portA = s.portA := rfl
@[simp] theorem setWindow_portB (w : Option Window) : (s.setWindow w).portB = s.portB := rfl
@[simp] theorem setWindow_selector (w : Option Window) : (s.setWindow w).selector = s.selector := rfl
@[simp] theorem setWindow_buffer (w : Option Window) : (s.setWindow w).buffer = s.buffer := rfl
@[simp] theorem setWindow_timebase (w : Option Window) : (s.setWindow w).timebase = s.timebase := rfl
@[simp] theorem setWindow_schedule (w : Option Window) : (s.setWindow w).schedule = s.schedule := rfl
@[simp] theorem setWindow_lines (w : Option Window) : (s.setWindow w).lines = s.lines := rfl
@[simp] theorem setWindow_notices (w : Option Window) : (s.setWindow w).notices = s.notices := rfl
@[simp] theorem setWindow_due (w : Option Window) : (s.setWindow w).due = s.due := rfl
@[simp] theorem setWindow_pending (w : Option Window) : (s.setWindow w).pending = s.pending := rfl

/-! ### setMonRecords -/

@[simp] theorem setMonRecords_settings (r : Vector MonRecord 12) : (s.setMonRecords r).settings = s.settings := rfl
@[simp] theorem setMonRecords_patterns (r : Vector MonRecord 12) : (s.setMonRecords r).patterns = s.patterns := rfl
@[simp] theorem setMonRecords_engine (r : Vector MonRecord 12) : (s.setMonRecords r).engine = s.engine := rfl
@[simp] theorem setMonRecords_nets (r : Vector MonRecord 12) : (s.setMonRecords r).nets = s.nets := rfl
@[simp] theorem setMonRecords_shift (r : Vector MonRecord 12) : (s.setMonRecords r).shift = s.shift := rfl
@[simp] theorem setMonRecords_monitor (r : Vector MonRecord 12) : (s.setMonRecords r).monitor = { s.monitor with records := r } := rfl
@[simp] theorem setMonRecords_link (r : Vector MonRecord 12) : (s.setMonRecords r).link = s.link := rfl
@[simp] theorem setMonRecords_portA (r : Vector MonRecord 12) : (s.setMonRecords r).portA = s.portA := rfl
@[simp] theorem setMonRecords_portB (r : Vector MonRecord 12) : (s.setMonRecords r).portB = s.portB := rfl
@[simp] theorem setMonRecords_selector (r : Vector MonRecord 12) : (s.setMonRecords r).selector = s.selector := rfl
@[simp] theorem setMonRecords_buffer (r : Vector MonRecord 12) : (s.setMonRecords r).buffer = s.buffer := rfl
@[simp] theorem setMonRecords_timebase (r : Vector MonRecord 12) : (s.setMonRecords r).timebase = s.timebase := rfl
@[simp] theorem setMonRecords_schedule (r : Vector MonRecord 12) : (s.setMonRecords r).schedule = s.schedule := rfl
@[simp] theorem setMonRecords_lines (r : Vector MonRecord 12) : (s.setMonRecords r).lines = s.lines := rfl
@[simp] theorem setMonRecords_notices (r : Vector MonRecord 12) : (s.setMonRecords r).notices = s.notices := rfl
@[simp] theorem setMonRecords_due (r : Vector MonRecord 12) : (s.setMonRecords r).due = s.due := rfl
@[simp] theorem setMonRecords_pending (r : Vector MonRecord 12) : (s.setMonRecords r).pending = s.pending := rfl

/-! ### setSettings -/

@[simp] theorem setSettings_settings (x : Settings) : (s.setSettings x).settings = x := rfl
@[simp] theorem setSettings_patterns (x : Settings) : (s.setSettings x).patterns = s.patterns := rfl
@[simp] theorem setSettings_engine (x : Settings) : (s.setSettings x).engine = s.engine := rfl
@[simp] theorem setSettings_nets (x : Settings) : (s.setSettings x).nets = s.nets := rfl
@[simp] theorem setSettings_shift (x : Settings) : (s.setSettings x).shift = s.shift := rfl
@[simp] theorem setSettings_monitor (x : Settings) : (s.setSettings x).monitor = s.monitor := rfl
@[simp] theorem setSettings_link (x : Settings) : (s.setSettings x).link = s.link := rfl
@[simp] theorem setSettings_portA (x : Settings) : (s.setSettings x).portA = s.portA := rfl
@[simp] theorem setSettings_portB (x : Settings) : (s.setSettings x).portB = s.portB := rfl
@[simp] theorem setSettings_selector (x : Settings) : (s.setSettings x).selector = s.selector := rfl
@[simp] theorem setSettings_buffer (x : Settings) : (s.setSettings x).buffer = s.buffer := rfl
@[simp] theorem setSettings_timebase (x : Settings) : (s.setSettings x).timebase = s.timebase := rfl
@[simp] theorem setSettings_schedule (x : Settings) : (s.setSettings x).schedule = s.schedule := rfl
@[simp] theorem setSettings_lines (x : Settings) : (s.setSettings x).lines = s.lines := rfl
@[simp] theorem setSettings_notices (x : Settings) : (s.setSettings x).notices = s.notices := rfl
@[simp] theorem setSettings_due (x : Settings) : (s.setSettings x).due = s.due := rfl
@[simp] theorem setSettings_pending (x : Settings) : (s.setSettings x).pending = s.pending := rfl

/-! ### setSelector -/

@[simp] theorem setSelector_settings (x : Selector) : (s.setSelector x).settings = s.settings := rfl
@[simp] theorem setSelector_patterns (x : Selector) : (s.setSelector x).patterns = s.patterns := rfl
@[simp] theorem setSelector_engine (x : Selector) : (s.setSelector x).engine = s.engine := rfl
@[simp] theorem setSelector_nets (x : Selector) : (s.setSelector x).nets = s.nets := rfl
@[simp] theorem setSelector_shift (x : Selector) : (s.setSelector x).shift = s.shift := rfl
@[simp] theorem setSelector_monitor (x : Selector) : (s.setSelector x).monitor = s.monitor := rfl
@[simp] theorem setSelector_link (x : Selector) : (s.setSelector x).link = s.link := rfl
@[simp] theorem setSelector_portA (x : Selector) : (s.setSelector x).portA = s.portA := rfl
@[simp] theorem setSelector_portB (x : Selector) : (s.setSelector x).portB = s.portB := rfl
@[simp] theorem setSelector_selector (x : Selector) : (s.setSelector x).selector = x := rfl
@[simp] theorem setSelector_buffer (x : Selector) : (s.setSelector x).buffer = s.buffer := rfl
@[simp] theorem setSelector_timebase (x : Selector) : (s.setSelector x).timebase = s.timebase := rfl
@[simp] theorem setSelector_schedule (x : Selector) : (s.setSelector x).schedule = s.schedule := rfl
@[simp] theorem setSelector_lines (x : Selector) : (s.setSelector x).lines = s.lines := rfl
@[simp] theorem setSelector_notices (x : Selector) : (s.setSelector x).notices = s.notices := rfl
@[simp] theorem setSelector_due (x : Selector) : (s.setSelector x).due = s.due := rfl
@[simp] theorem setSelector_pending (x : Selector) : (s.setSelector x).pending = s.pending := rfl

/-! ### setBuffer -/

@[simp] theorem setBuffer_settings (x : Buffer) : (s.setBuffer x).settings = s.settings := rfl
@[simp] theorem setBuffer_patterns (x : Buffer) : (s.setBuffer x).patterns = s.patterns := rfl
@[simp] theorem setBuffer_engine (x : Buffer) : (s.setBuffer x).engine = s.engine := rfl
@[simp] theorem setBuffer_nets (x : Buffer) : (s.setBuffer x).nets = s.nets := rfl
@[simp] theorem setBuffer_shift (x : Buffer) : (s.setBuffer x).shift = s.shift := rfl
@[simp] theorem setBuffer_monitor (x : Buffer) : (s.setBuffer x).monitor = s.monitor := rfl
@[simp] theorem setBuffer_link (x : Buffer) : (s.setBuffer x).link = s.link := rfl
@[simp] theorem setBuffer_portA (x : Buffer) : (s.setBuffer x).portA = s.portA := rfl
@[simp] theorem setBuffer_portB (x : Buffer) : (s.setBuffer x).portB = s.portB := rfl
@[simp] theorem setBuffer_selector (x : Buffer) : (s.setBuffer x).selector = s.selector := rfl
@[simp] theorem setBuffer_buffer (x : Buffer) : (s.setBuffer x).buffer = x := rfl
@[simp] theorem setBuffer_timebase (x : Buffer) : (s.setBuffer x).timebase = s.timebase := rfl
@[simp] theorem setBuffer_schedule (x : Buffer) : (s.setBuffer x).schedule = s.schedule := rfl
@[simp] theorem setBuffer_lines (x : Buffer) : (s.setBuffer x).lines = s.lines := rfl
@[simp] theorem setBuffer_notices (x : Buffer) : (s.setBuffer x).notices = s.notices := rfl
@[simp] theorem setBuffer_due (x : Buffer) : (s.setBuffer x).due = s.due := rfl
@[simp] theorem setBuffer_pending (x : Buffer) : (s.setBuffer x).pending = s.pending := rfl

/-! ### setTimebase -/

@[simp] theorem setTimebase_settings (x : Timebase) : (s.setTimebase x).settings = s.settings := rfl
@[simp] theorem setTimebase_patterns (x : Timebase) : (s.setTimebase x).patterns = s.patterns := rfl
@[simp] theorem setTimebase_engine (x : Timebase) : (s.setTimebase x).engine = s.engine := rfl
@[simp] theorem setTimebase_nets (x : Timebase) : (s.setTimebase x).nets = s.nets := rfl
@[simp] theorem setTimebase_shift (x : Timebase) : (s.setTimebase x).shift = s.shift := rfl
@[simp] theorem setTimebase_monitor (x : Timebase) : (s.setTimebase x).monitor = s.monitor := rfl
@[simp] theorem setTimebase_link (x : Timebase) : (s.setTimebase x).link = s.link := rfl
@[simp] theorem setTimebase_portA (x : Timebase) : (s.setTimebase x).portA = s.portA := rfl
@[simp] theorem setTimebase_portB (x : Timebase) : (s.setTimebase x).portB = s.portB := rfl
@[simp] theorem setTimebase_selector (x : Timebase) : (s.setTimebase x).selector = s.selector := rfl
@[simp] theorem setTimebase_buffer (x : Timebase) : (s.setTimebase x).buffer = s.buffer := rfl
@[simp] theorem setTimebase_timebase (x : Timebase) : (s.setTimebase x).timebase = x := rfl
@[simp] theorem setTimebase_schedule (x : Timebase) : (s.setTimebase x).schedule = s.schedule := rfl
@[simp] theorem setTimebase_lines (x : Timebase) : (s.setTimebase x).lines = s.lines := rfl
@[simp] theorem setTimebase_notices (x : Timebase) : (s.setTimebase x).notices = s.notices := rfl
@[simp] theorem setTimebase_due (x : Timebase) : (s.setTimebase x).due = s.due := rfl
@[simp] theorem setTimebase_pending (x : Timebase) : (s.setTimebase x).pending = s.pending := rfl

/-! ### setSchedule -/

@[simp] theorem setSchedule_settings (x : Schedule) : (s.setSchedule x).settings = s.settings := rfl
@[simp] theorem setSchedule_patterns (x : Schedule) : (s.setSchedule x).patterns = s.patterns := rfl
@[simp] theorem setSchedule_engine (x : Schedule) : (s.setSchedule x).engine = s.engine := rfl
@[simp] theorem setSchedule_nets (x : Schedule) : (s.setSchedule x).nets = s.nets := rfl
@[simp] theorem setSchedule_shift (x : Schedule) : (s.setSchedule x).shift = s.shift := rfl
@[simp] theorem setSchedule_monitor (x : Schedule) : (s.setSchedule x).monitor = s.monitor := rfl
@[simp] theorem setSchedule_link (x : Schedule) : (s.setSchedule x).link = s.link := rfl
@[simp] theorem setSchedule_portA (x : Schedule) : (s.setSchedule x).portA = s.portA := rfl
@[simp] theorem setSchedule_portB (x : Schedule) : (s.setSchedule x).portB = s.portB := rfl
@[simp] theorem setSchedule_selector (x : Schedule) : (s.setSchedule x).selector = s.selector := rfl
@[simp] theorem setSchedule_buffer (x : Schedule) : (s.setSchedule x).buffer = s.buffer := rfl
@[simp] theorem setSchedule_timebase (x : Schedule) : (s.setSchedule x).timebase = s.timebase := rfl
@[simp] theorem setSchedule_schedule (x : Schedule) : (s.setSchedule x).schedule = x := rfl
@[simp] theorem setSchedule_lines (x : Schedule) : (s.setSchedule x).lines = s.lines := rfl
@[simp] theorem setSchedule_notices (x : Schedule) : (s.setSchedule x).notices = s.notices := rfl
@[simp] theorem setSchedule_due (x : Schedule) : (s.setSchedule x).due = s.due := rfl
@[simp] theorem setSchedule_pending (x : Schedule) : (s.setSchedule x).pending = s.pending := rfl

/-! ### setDue -/

@[simp] theorem setDue_settings (d : List TickEvent) : (s.setDue d).settings = s.settings := rfl
@[simp] theorem setDue_patterns (d : List TickEvent) : (s.setDue d).patterns = s.patterns := rfl
@[simp] theorem setDue_engine (d : List TickEvent) : (s.setDue d).engine = s.engine := rfl
@[simp] theorem setDue_nets (d : List TickEvent) : (s.setDue d).nets = s.nets := rfl
@[simp] theorem setDue_shift (d : List TickEvent) : (s.setDue d).shift = s.shift := rfl
@[simp] theorem setDue_monitor (d : List TickEvent) : (s.setDue d).monitor = s.monitor := rfl
@[simp] theorem setDue_link (d : List TickEvent) : (s.setDue d).link = s.link := rfl
@[simp] theorem setDue_portA (d : List TickEvent) : (s.setDue d).portA = s.portA := rfl
@[simp] theorem setDue_portB (d : List TickEvent) : (s.setDue d).portB = s.portB := rfl
@[simp] theorem setDue_selector (d : List TickEvent) : (s.setDue d).selector = s.selector := rfl
@[simp] theorem setDue_buffer (d : List TickEvent) : (s.setDue d).buffer = s.buffer := rfl
@[simp] theorem setDue_timebase (d : List TickEvent) : (s.setDue d).timebase = s.timebase := rfl
@[simp] theorem setDue_schedule (d : List TickEvent) : (s.setDue d).schedule = s.schedule := rfl
@[simp] theorem setDue_lines (d : List TickEvent) : (s.setDue d).lines = s.lines := rfl
@[simp] theorem setDue_notices (d : List TickEvent) : (s.setDue d).notices = s.notices := rfl
@[simp] theorem setDue_due (d : List TickEvent) : (s.setDue d).due = d := rfl
@[simp] theorem setDue_pending (d : List TickEvent) : (s.setDue d).pending = s.pending := rfl

/-! ### setPort -/

@[simp] theorem setPort_settings (p : Port) (x : PortState) : (s.setPort p x).settings = s.settings := by cases p <;> rfl
@[simp] theorem setPort_patterns (p : Port) (x : PortState) : (s.setPort p x).patterns = s.patterns := by cases p <;> rfl
@[simp] theorem setPort_engine (p : Port) (x : PortState) : (s.setPort p x).engine = s.engine := by cases p <;> rfl
@[simp] theorem setPort_nets (p : Port) (x : PortState) : (s.setPort p x).nets = s.nets := by cases p <;> rfl
@[simp] theorem setPort_shift (p : Port) (x : PortState) : (s.setPort p x).shift = s.shift := by cases p <;> rfl
@[simp] theorem setPort_monitor (p : Port) (x : PortState) : (s.setPort p x).monitor = s.monitor := by cases p <;> rfl
@[simp] theorem setPort_link (p : Port) (x : PortState) : (s.setPort p x).link = s.link := by cases p <;> rfl
@[simp] theorem setPort_selector (p : Port) (x : PortState) : (s.setPort p x).selector = s.selector := by cases p <;> rfl
@[simp] theorem setPort_buffer (p : Port) (x : PortState) : (s.setPort p x).buffer = s.buffer := by cases p <;> rfl
@[simp] theorem setPort_timebase (p : Port) (x : PortState) : (s.setPort p x).timebase = s.timebase := by cases p <;> rfl
@[simp] theorem setPort_schedule (p : Port) (x : PortState) : (s.setPort p x).schedule = s.schedule := by cases p <;> rfl
@[simp] theorem setPort_lines (p : Port) (x : PortState) : (s.setPort p x).lines = s.lines := by cases p <;> rfl
@[simp] theorem setPort_notices (p : Port) (x : PortState) : (s.setPort p x).notices = s.notices := by cases p <;> rfl
@[simp] theorem setPort_due (p : Port) (x : PortState) : (s.setPort p x).due = s.due := by cases p <;> rfl
@[simp] theorem setPort_pending (p : Port) (x : PortState) : (s.setPort p x).pending = s.pending := by cases p <;> rfl
@[simp] theorem setPort_port (p : Port) (x : PortState) : (s.setPort p x).port p = x := by cases p <;> rfl
theorem setPort_port_ne {p q : Port} (h : q ≠ p) (x : PortState) : (s.setPort p x).port q = s.port q := by
  cases p <;> cases q <;> first | rfl | exact absurd rfl h
@[simp] theorem setPort_setPort (p : Port) (x y : PortState) : (s.setPort p x).setPort p y = s.setPort p y := by
  cases p <;> rfl

/-! ### Reading one entry after a write -/

theorem get_set {α : Type} {n : Nat} (v : Vector α n) (i j : Fin n) (x : α) :
    (v.set i x).get j = if j = i then x else v.get j := by
  have e : ∀ (w : Vector α n) (k : Fin n), w.get k = w[k.val] := fun _ _ => rfl
  rw [e, e, Vector.getElem_set]
  simp only [Fin.ext_iff, eq_comm]

@[simp] theorem get_tab {α : Type} {n : Nat} (f : Fin n → α) (i : Fin n) : (tab f).get i = f i := by
  simp [tab, Vector.get]
  rfl

@[simp] theorem get_replicate {α : Type} {n : Nat} (x : α) (i : Fin n) : (Vector.replicate n x).get i = x := by
  have e : ∀ (w : Vector α n) (k : Fin n), w.get k = w[k.val] := fun _ _ => rfl
  rw [e, Vector.getElem_replicate]

/-- Two tables are equal where all their entries are. -/
theorem vec_ext {α : Type} {n : Nat} {v w : Vector α n} (h : ∀ i, v.get i = w.get i) : v = w := by
  apply Vector.ext
  intro i hi
  exact h ⟨i, hi⟩

theorem tab_get {α : Type} {n : Nat} (v : Vector α n) : (tab fun i => v.get i) = v := vec_ext fun i => get_tab _ i

theorem set_eq_tab {α : Type} {n : Nat} (v : Vector α n) (i : Fin n) (x : α) :
    v.set i x = tab fun j => if j = i then x else v.get j := vec_ext fun j => by rw [get_set, get_tab]

theorem setRecord_record (p q : Slot) (r : PatternRecord) :
    (s.setRecord p r).record q = if q = p then r else s.record q := get_set _ _ _ _

theorem setNet_net (t u : Tower) (r : NetRecord) : (s.setNet t r).net u = if u = t then r else s.net u :=
  get_set _ _ _ _

theorem setTower_tower (t u : Tower) (e : TowerEntry) :
    (s.setTower t e).tower u = if u = t then e else s.tower u := get_set _ _ _ _

theorem setLine_line (l m : Line) (c : ContactLine) : (s.setLine l c).line m = if m = l then c else s.line m :=
  get_set _ _ _ _

theorem setNoticeSource_noticeSource (i j : Fin 13) (n : NoticeSource) :
    (s.setNoticeSource i n).noticeSource j = if j = i then n else s.noticeSource j := get_set _ _ _ _

/-! ### What a derived reading depends on -/

theorem record_congr {s t : State} (h : t.patterns = s.patterns) (p : Slot) : t.record p = s.record p := by
  simp only [State.record, h]

theorem zeroHold_congr {s t : State} (h : t.nets = s.nets) (k : t.link.towers = s.link.towers) (j : Tower) :
    t.zeroHold j = s.zeroHold j := by
  simp only [State.zeroHold, State.outOfService, State.unusable, State.tower, State.net, h, k]

theorem mute_congr {s t : State} (h : t.lines = s.lines) : t.mute = s.mute := by
  simp only [State.mute, State.line, h]

theorem usable_congr {s t : State} (h : t.patterns = s.patterns) (k : t.link.towers = s.link.towers)
    (l : t.settings = s.settings) (p : Slot) : t.usable p = s.usable p := by
  simp only [State.usable, State.record, State.outOfService, State.unusable, State.tower, h, k, l]

theorem allZero_congr {s t : State} (h : t.engine.live = s.engine.live) : t.allZero = s.allZero := by
  simp only [State.allZero, State.live, h]

@[simp] theorem setLive_live (f : Tower → Cpx) (t : Tower) : (s.setLive (tab f)).live t = f t := get_tab _ _

end Sys2Proof.Machine
end

