-- ==== Sys2Proof/Laws/Ops.lean ====
section
/-! SUPPORT. What each shared operation does, said once: the provers cite these lemmas and do not unfold the operations. -/

namespace Sys2Proof.Machine

variable (s : State)

/-! ### The reception of requests -/

@[simp] theorem setDue_nil_of_nil (h : s.due = []) : s.setDue [] = s := by
  cases s; simp_all [State.setDue]

theorem settle_of_due_nil (h : s.due = []) : settle s = s := by
  simp [settle, h]

theorem abandonRequest_of_idle {p : Port} (h : (s.port p).assembly = .idle) : abandonRequest p s = s := by
  simp [abandonRequest, h]

theorem takeRequest_of_empty {p : Port} (code tag : Byte) (op : RequestOp) (h : (s.port p).slot = none) :
    takeRequest p code tag op s = placeReply p code tag (op s).2 (op s).1 := by
  simp [takeRequest, h]

/-- A request that arrives at a port whose assembly is idle and whose slot is empty is executed and answered. -/
theorem requestArrives_of_admits {p : Port} (code tag : Byte) (op : RequestOp) (h : s.admits p) :
    requestArrives p code tag op (settle s) = placeReply p code tag (op s).2 (op s).1 := by
  obtain ⟨h1, h2, h3⟩ := h
  rw [settle_of_due_nil s h1, requestArrives, abandonRequest_of_idle s h2, takeRequest_of_empty s _ _ _ h3]

@[simp] theorem refused_fst (c : ReplyCode) : (refused c s).1 = s := rfl
@[simp] theorem refused_snd (c : ReplyCode) : (refused c s).2 = refuse c := rfl
@[simp] theorem answered_fst (v : List Byte) : (answered s v).1 = s := rfl
@[simp] theorem answered_snd (v : List Byte) : (answered s v).2 = replyOk v := rfl

/-! ### Counters (R31, R117, R131, R143) -/

theorem bump_of_lt {n : Nat} (h : n < 65535) : bump n = n + 1 := by simp [bump, Config.counterTop, h]

theorem bump_top {n : Nat} (h : 65535 ≤ n) : bump n = n := by
  simp [bump, Config.counterTop, Nat.not_lt.mpr h]

theorem bump_le {n : Nat} (h : n ≤ 65535) : bump n ≤ 65535 := by unfold bump Config.counterTop; split <;> omega

/-! ### The Live Weight Set under the zero hold (R24 to R26) -/

theorem writeAllWeights_live (f : Tower → Cpx) (t : Tower) :
    (writeAllWeights f s).live t = if s.zeroHold t then Cpx.zero else f t := get_tab _ _

theorem writeWeight_live (t u : Tower) (w : Cpx) :
    (writeWeight t w s).live u = if u = t then (if s.zeroHold t then Cpx.zero else w) else s.live u := get_set _ _ _ _

theorem forceZero_live (t u : Tower) : (forceZero t s).live u = if u = t then Cpx.zero else s.live u := get_set _ _ _ _

/-! ### Notices (R173) -/

theorem raise_noticeSource (n : Notice) (i : Fin 13) :
    (raise n s).noticeSource i =
      if i = n.source then (s.noticeSource n.source).raised n else s.noticeSource i :=
  setNoticeSource_noticeSource _ _ _ _

/-- A raise keeps every source's enable and level. -/
theorem raise_enabled (n : Notice) (i : Fin 13) :
    ((raise n s).noticeSource i).enabled = (s.noticeSource i).enabled
      ∧ ((raise n s).noticeSource i).level = (s.noticeSource i).level := by
  rw [raise_noticeSource]
  by_cases h : i = n.source
  · subst h; simp only [↓reduceIte]; unfold NoticeSource.raised; split <;> exact ⟨rfl, rfl⟩
  · simp [h]

/-! ### The step timer (R64) -/

@[simp] theorem startTimer_timer :
    (startTimer s).shift.timer = { counter := s.settings.stepPeriod, running := true } := rfl

@[simp] theorem stopTimer_running : (stopTimer s).shift.timer.running = false := rfl

/-- A stopped counter is the one that stood, or the reload value where that was 0. -/
theorem stopTimer_counter :
    (stopTimer s).shift.timer.counter =
      if s.shift.timer.counter = 0 then s.settings.stepPeriod else s.shift.timer.counter := rfl

theorem stopTimer_counter_ne_zero (h : s.settings.stepPeriod ≠ 0) : (stopTimer s).shift.timer.counter ≠ 0 := by
  rw [stopTimer_counter]; split <;> assumption

/-! ### Contact lines (R155, R156, R158) -/

/-- A tick at which a line stands where it is sampled leaves a present level equal to the sampled one. -/
theorem ContactLine.ticked_present (c : ContactLine) (level : Bool) :
    (c.ticked level level).present = c.sense.read level := by
  unfold ContactLine.ticked; dsimp only; split <;> rfl

/-- A line configured anew stands at its present level with its count at 0, so that a tick that samples that level takes
no action. -/
theorem ContactLine.configured_ticked (c : ContactLine) (x : Sense) (a : Action) (pin : Bool) :
    ((c.configured x a).ticked c.pin pin).count = 0 := by
  simp [ContactLine.configured, ContactLine.ticked, ContactLine.sampled, ContactLine.present]

/-! ### Networks (R38, R41) -/

@[simp] theorem withdrawAll_net (t : Tower) : (withdrawAll s).net t = { s.net t with commanded := none } := get_tab _ _

/-- A move request changes the record of its own tower alone, and no other block. -/
theorem requestMove_frame (t u : Tower) (q : Pos) (h : u ≠ t) : (requestMove t q s).1.net u = s.net u := by
  unfold requestMove
  split
  · simp [setCommanded, setNet_net, h]
  · split
    · split
      · simp [setCommanded, setNet_net, h]
      · split
        · simp [startMove, setNet_net, h]
        · rfl
    all_goals simp [setCommanded, setNet_net, h]

/-! ### The monitor's window (R85, R88, R89) -/

/-- The window after a restart: none under mute or without a duty, and otherwise one that begins over its pattern. -/
theorem restartWindow_window :
    (restartWindow s).monitor.window =
      match s.monitor.duty.pattern with
      | some p => if s.mute then none else freshWindow s p
      | none => none := rfl

/-- A window that begins is over its pattern, with the settings of the moment and nothing counted. -/
theorem freshWindow_fields {p : Slot} {w : Window} (h : freshWindow s p = some w) :
    w.pattern = p ∧ w.reports = s.settings.monWindow ∧ w.limit = s.settings.windowLimit ∧ w.timer = 0
      ∧ ∀ t : Tower, w.acc.get t = { count := 0, sum := Cpx.zero } := by
  unfold freshWindow at h
  split at h
  · cases h
  · split at h
    · cases h
    · split at h
      · cases h; exact ⟨rfl, rfl, rfl, rfl, fun t => get_replicate _ _⟩
      · cases h

end Sys2Proof.Machine
end

