-- ==== Sys2Proof/Laws/Shift.lean ====
section
/-! SUPPORT. What the Shift Controller, the Array Monitor and the Network Controller leave alone: every operation of
chapters 3 to 6 keeps the blocks outside the array, whatever it does inside. -/

namespace Sys2Proof.Machine

/-- Two states that agree in every block but the Weighting Engine, the Network Controller, the Shift Controller, the
Array Monitor, the Tower Table and the Notice Selector. -/
structure SameOutside (s t : State) : Prop where
  settings : t.settings = s.settings
  patterns : t.patterns = s.patterns
  returnErrors : t.link.returnErrors = s.link.returnErrors
  driveFrame : t.link.driveFrame = s.link.driveFrame
  portA : t.portA = s.portA
  portB : t.portB = s.portB
  selector : t.selector = s.selector
  buffer : t.buffer = s.buffer
  timebase : t.timebase = s.timebase
  schedule : t.schedule = s.schedule
  lines : t.lines = s.lines
  due : t.due = s.due
  pending : t.pending = s.pending

theorem SameOutside.refl (s : State) : SameOutside s s := ⟨rfl, rfl, rfl, rfl, rfl, rfl, rfl, rfl, rfl, rfl, rfl, rfl, rfl⟩

theorem SameOutside.trans {s t u : State} (h : SameOutside s t) (k : SameOutside t u) : SameOutside s u :=
  ⟨k.1.trans h.1, k.2.trans h.2, k.3.trans h.3, k.4.trans h.4, k.5.trans h.5, k.6.trans h.6, k.7.trans h.7,
    k.8.trans h.8, k.9.trans h.9, k.10.trans h.10, k.11.trans h.11, k.12.trans h.12, k.13.trans h.13⟩

variable (s : State)

/-! ### The writes -/

theorem raise_outside (n : Notice) : SameOutside s (raise n s) := by constructor <;> rfl
theorem setNet_outside (t : Tower) (r : NetRecord) : SameOutside s (s.setNet t r) := by constructor <;> rfl
theorem setTower_outside (t : Tower) (e : TowerEntry) : SameOutside s (s.setTower t e) := by constructor <;> rfl
theorem setLive_outside (w : Vector Cpx 12) : SameOutside s (s.setLive w) := by constructor <;> rfl
theorem setArray_outside (a : ArrayState) : SameOutside s (s.setArray a) := by constructor <;> rfl
theorem setQueue_outside (q : List Order) : SameOutside s (s.setQueue q) := by constructor <;> rfl
theorem setFlag_outside (b : Bool) : SameOutside s (s.setFlag b) := by constructor <;> rfl
theorem setLastFailure_outside (f : LastFailure) : SameOutside s (s.setLastFailure f) := by constructor <;> rfl
theorem setDuty_outside (d : Duty) : SameOutside s (s.setDuty d) := by constructor <;> rfl
theorem setWindow_outside (w : Option Window) : SameOutside s (s.setWindow w) := by constructor <;> rfl
theorem setMonRecords_outside (r : Vector MonRecord 12) : SameOutside s (s.setMonRecords r) := by constructor <;> rfl
theorem startTimer_outside : SameOutside s (startTimer s) := by constructor <;> rfl
theorem stopTimer_outside : SameOutside s (stopTimer s) := by constructor <;> rfl
theorem withdrawAll_outside : SameOutside s (withdrawAll s) := by constructor <;> rfl
theorem clearDuty_outside : SameOutside s (clearDuty s) := by constructor <;> rfl
theorem endTransition_outside : SameOutside s (endTransition s) := by constructor <;> rfl
theorem setCommanded_outside (t : Tower) (q : Option Pos) : SameOutside s (setCommanded t q s) := by constructor <;> rfl
theorem startMove_outside (t : Tower) (p q : Pos) : SameOutside s (startMove t p q s) := by constructor <;> rfl
theorem forceZero_outside (t : Tower) : SameOutside s (forceZero t s) := by constructor <;> rfl
theorem writeAllWeights_outside (f : Tower → Cpx) : SameOutside s (writeAllWeights f s) := by constructor <;> rfl
theorem writeWeight_outside (t : Tower) (w : Cpx) : SameOutside s (writeWeight t w s) := by constructor <;> rfl
theorem restartWindow_outside : SameOutside s (restartWindow s) := setWindow_outside _ _

/-! ### The Shift Controller -/

theorem requestMove_outside (t : Tower) (q : Pos) : SameOutside s (requestMove t q s).1 := by
  unfold requestMove
  split
  · exact setCommanded_outside _ _ _
  · split
    · split
      · exact setCommanded_outside _ _ _
      · split
        · exact startMove_outside _ _ _ _
        · exact .refl _
    all_goals exact setCommanded_outside _ _ _

theorem discardOrders_outside (os : List Order) :
    SameOutside s (os.foldl (fun s o => discardOrder o s) s) := by
  induction os generalizing s with
  | nil => exact .refl _
  | cons o os ih => exact (raise_outside _ _).trans (ih _)

theorem flushQueue_outside : SameOutside s (flushQueue s) :=
  (discardOrders_outside s _).trans (setQueue_outside _ _)

theorem finishSafeDrop_outside (c : Context) : SameOutside s (finishSafeDrop c s) := by
  unfold finishSafeDrop
  have h : SameOutside s (stopTimer (s.setArray .safe)) := (setArray_outside _ _).trans (stopTimer_outside _)
  split
  · exact h.trans (raise_outside _ _)
  · exact h

theorem safeDrop_outside (p : Slot) (r : Reason) (x : Prior) : SameOutside s (safeDrop p r x s) := by
  unfold safeDrop
  have h := (flushQueue_outside s).trans (clearDuty_outside _)
  have k := h.trans ((setArray_outside _ (.shifting (safeDropContext p r x (clearDuty (flushQueue s))))).trans
    (startTimer_outside _))
  dsimp only
  split
  · exact k.trans (finishSafeDrop_outside _ _)
  · exact k

theorem beginDrop_outside (c : Context) : SameOutside s (beginDrop c s) :=
  (setArray_outside _ _).trans (startTimer_outside _)

theorem beginCross_outside (c : Context) (p : Slot) : SameOutside s (beginCross c p s) :=
  (setArray_outside _ _).trans (startTimer_outside _)

theorem endSwitchIfDone_outside : SameOutside s (endSwitchIfDone s) := by
  unfold endSwitchIfDone
  split
  · split
    · split
      · exact beginCross_outside _ _ _
      · exact .refl _
    · exact .refl _
  · exact .refl _

theorem zeroStart_outside (t : Tower) : SameOutside s (zeroStart t s) := by
  unfold zeroStart
  split
  · exact setArray_outside _ _
  · exact .refl _

theorem leaveSwitchSet_outside (t : Tower) : SameOutside s (leaveSwitchSet t s) := by
  unfold leaveSwitchSet
  split
  · split
    · exact (setArray_outside _ _).trans (setCommanded_outside _ _ _)
    · exact .refl _
  · exact .refl _

theorem makeRoomAtHead_outside : SameOutside s (makeRoomAtHead s) := by
  unfold makeRoomAtHead
  split
  · split
    · exact (raise_outside _ _).trans (setQueue_outside _ _)
    · exact .refl _
  · exact .refl _

section
variable {fail : Reason → Option Tower → State → State} (hf : ∀ r t x, SameOutside x (fail r t x))
include hf

theorem sendMoves_outside (p : Slot) (ts : List Tower) : SameOutside s (sendMoves fail p ts s).1 := by
  induction ts generalizing s with
  | nil => exact .refl _
  | cons t ts ih =>
    have h := requestMove_outside s t ((s.record p).wanted t)
    unfold sendMoves
    split
    · rename_i s' hs
      rw [hs] at h
      split
      · exact h.trans ((zeroStart_outside _ _).trans (hf _ _ _))
      · exact h.trans ((zeroStart_outside _ _).trans ((leaveSwitchSet_outside _ _).trans (ih _)))
    · rename_i s' a _ hs
      rw [hs] at h
      exact h.trans (ih _)

theorem beginSwitchWith_outside (c : Context) (p : Slot) : SameOutside s (beginSwitchWith fail c p s) := by
  unfold beginSwitchWith
  dsimp only
  have h := sendMoves_outside (s.setArray (.shifting
    { c with phase := .switch, stepCount := 0, stepTotal := none, switchWait := 0 })) hf p c.switchSet
  split
  · rename_i s' hs
    rw [hs] at h
    exact (setArray_outside _ _).trans (h.trans (endSwitchIfDone_outside _))
  · rename_i s' hs
    rw [hs] at h
    exact (setArray_outside _ _).trans h

theorem beginTransitionWith_outside (st : Start) : SameOutside s (beginTransitionWith fail st s) := by
  unfold beginTransitionWith
  dsimp only
  split
  · exact (clearDuty_outside _).trans (beginDrop_outside _ _)
  · split
    · exact (clearDuty_outside _).trans (beginCross_outside _ _ _)
    · exact (clearDuty_outside _).trans (beginSwitchWith_outside _ hf _ _)

end

section
variable {start : Start → State → State} (hs : ∀ st x, SameOutside x (start st x))
include hs

theorem handleFailureWith_outside (f : Failure) : SameOutside s (handleFailureWith start f s) := by
  unfold handleFailureWith
  dsimp only
  split
  · exact (setLastFailure_outside _ _).trans (safeDrop_outside _ _ _ _)
  · split
    · exact (setLastFailure_outside _ _).trans
        ((makeRoomAtHead_outside _).trans ((hs _ _).trans (raise_outside _ _)))
    · exact (setLastFailure_outside _ _).trans (safeDrop_outside _ _ _ _)

theorem failTransitionWith_outside (d : Option (Tower × Verdict × Nat)) (r : Reason) (t : Option Tower) :
    SameOutside s (failTransitionWith start d r t s) := by
  unfold failTransitionWith
  split
  · split
    · exact (endTransition_outside _).trans ((raise_outside _ _).trans (handleFailureWith_outside _ hs _))
    · exact .refl _
  · exact .refl _

end

theorem failFallback_outside (r : Reason) (t : Option Tower) : SameOutside s (failFallback r t s) :=
  failTransitionWith_outside _ (fun _ _ => .refl _) _ _ _

theorem startFallback_outside (st : Start) : SameOutside s (startFallback st s) :=
  beginTransitionWith_outside _ (fun r t x => failFallback_outside x r t) _

theorem handleFailure_outside (f : Failure) : SameOutside s (handleFailure f s) :=
  handleFailureWith_outside _ (fun st x => startFallback_outside x st) _

theorem failTransition_outside (r : Reason) (t : Option Tower) : SameOutside s (failTransition r t s) :=
  failTransitionWith_outside _ (fun st x => startFallback_outside x st) _ _ _

theorem failVerify_outside (t : Tower) (v : Verdict) (d : Nat) : SameOutside s (failVerify t v d s) :=
  failTransitionWith_outside _ (fun st x => startFallback_outside x st) _ _ _

theorem beginTransition_outside (st : Start) : SameOutside s (beginTransition st s) :=
  beginTransitionWith_outside _ (fun r t x => failTransition_outside x r t) _

theorem failSteady_outside (p : Slot) (r : Reason) (t : Tower) : SameOutside s (failSteady p r t s) :=
  handleFailure_outside _ _

theorem towerLost_outside (t : Tower) (r : Reason) : SameOutside s (towerLost t r s) := by
  unfold towerLost
  split
  · dsimp only
    split
    · split
      · exact (zeroStart_outside _ _).trans (failTransition_outside _ _ _)
      · exact (zeroStart_outside _ _).trans ((leaveSwitchSet_outside _ _).trans (endSwitchIfDone_outside _))
    · exact zeroStart_outside _ _
  · exact .refl _

theorem towerUnusable_outside (t : Tower) (u : UnusableCause) : SameOutside s (towerUnusable t u s) := by
  unfold towerUnusable
  split
  · exact towerLost_outside _ _ _
  · split
    · exact failSteady_outside _ _ _ _
    · exact .refl _
  · exact .refl _

theorem towerLocked_outside (t : Tower) : SameOutside s (towerLocked t s) := by
  unfold towerLocked
  split
  · exact (zeroStart_outside _ _).trans ((leaveSwitchSet_outside _ _).trans (endSwitchIfDone_outside _))
  · exact .refl _

theorem moveRefused_outside (t : Tower) : SameOutside s (moveRefused t s) := by
  unfold moveRefused
  split
  · split
    · exact towerLost_outside _ _ _
    · exact .refl _
  · exact .refl _

theorem towerDrifts_outside (t : Tower) : SameOutside s (towerDrifts t s) := by
  unfold towerDrifts
  split
  · split
    · exact zeroStart_outside _ _
    · exact .refl _
  · exact .refl _

theorem startRoutine_outside (o : Order) : SameOutside s (startRoutine o s) := by
  unfold startRoutine
  split
  · exact .refl _
  · split
    · exact raise_outside _ _
    · split
      · exact raise_outside _ _
      · split
        · exact (raise_outside _ _).trans (setFlag_outside _ _)
        · exact beginTransition_outside _ _

theorem examineFrom_outside (n : Nat) : SameOutside s (examineFrom n s) := by
  induction n generalizing s with
  | zero => exact .refl _
  | succ n ih =>
    unfold examineFrom
    split
    · exact .refl _
    · split
      · exact .refl _
      · dsimp only
        split
        · exact (setQueue_outside _ _).trans ((raise_outside _ _).trans (ih _))
        · exact (setQueue_outside _ _).trans ((startRoutine_outside _ _).trans (ih _))

theorem examineQueue_outside : SameOutside s (examineQueue s) := examineFrom_outside _ _

theorem offerOrder_outside (o : Order) : SameOutside s (offerOrder o s) := by
  unfold offerOrder
  split
  · exact (setQueue_outside _ _).trans (examineQueue_outside _)
  · exact .refl _

theorem setSteadyDuty_outside (p : Slot) : SameOutside s (setSteadyDuty p s) := by
  unfold setSteadyDuty
  dsimp only
  split
  · exact (setDuty_outside _ _).trans (restartWindow_outside _)
  · exact (setDuty_outside _ _).trans ((restartWindow_outside _).trans (setMonRecords_outside _ _))

theorem setVerifyDuty_outside (p : Slot) : SameOutside s (setVerifyDuty p s) :=
  (setDuty_outside _ _).trans (restartWindow_outside _)

theorem succeed_outside (c : Context) (p : Slot) : SameOutside s (succeed c p s) :=
  (setArray_outside _ _).trans ((stopTimer_outside _).trans ((withdrawAll_outside _).trans ((setFlag_outside _ _).trans
    ((raise_outside _ _).trans ((setSteadyDuty_outside _ _).trans (examineQueue_outside _))))))

theorem finishAbort_outside (c : Context) : SameOutside s (finishAbort c s) :=
  (setArray_outside _ _).trans ((stopTimer_outside _).trans ((withdrawAll_outside _).trans
    ((raise_outside _ _).trans (examineQueue_outside _))))

theorem beginVerify_outside (c : Context) (p : Slot) : SameOutside s (beginVerify c p s) := by
  unfold beginVerify
  dsimp only
  split
  · exact (setArray_outside _ _).trans ((stopTimer_outside _).trans (setVerifyDuty_outside _ _))
  · exact (setArray_outside _ _).trans ((stopTimer_outside _).trans (succeed_outside _ _ _))

theorem verifyAnswered_outside (a : VerifyAnswer) : SameOutside s (verifyAnswered a s) := by
  unfold verifyAnswered
  split
  · split
    · dsimp only
      split
      · exact (setArray_outside _ _).trans (succeed_outside _ _ _)
      · split
        · exact (setArray_outside _ _).trans (setVerifyDuty_outside _ _)
        · exact (setArray_outside _ _).trans (failVerify_outside _ _ _ _)
    · exact .refl _
  · exact .refl _

theorem rampEnded_outside (c : Context) : SameOutside s (rampEnded c s) := by
  unfold rampEnded
  split
  · split
    · exact (finishSafeDrop_outside _ _).trans (examineQueue_outside _)
    · exact finishAbort_outside _ _
  · split
    · exact beginVerify_outside _ _ _
    · exact (stopTimer_outside _).trans (beginSwitchWith_outside _ (fun r t x => failTransition_outside x r t) _ _)

theorem takeStep_outside : SameOutside s (takeStep s) := by
  unfold takeStep
  split
  · split
    · dsimp only
      split
      · exact (setArray_outside _ _).trans ((writeAllWeights_outside _ _).trans (rampEnded_outside _ _))
      · exact (setArray_outside _ _).trans (writeAllWeights_outside _ _)
    · exact .refl _
  · exact .refl _

theorem timeOutMoves_outside (p : Slot) (ts : List Tower) : SameOutside s (timeOutMoves p ts s) := by
  induction ts generalizing s with
  | nil => exact endSwitchIfDone_outside _
  | cons t ts ih =>
    unfold timeOutMoves
    split
    · exact ih _
    · split
      · exact failTransition_outside _ _ _
      · exact (leaveSwitchSet_outside _ _).trans (ih _)

theorem switchTimedOut_outside : SameOutside s (switchTimedOut s) := by
  unfold switchTimedOut
  split
  · split
    · split
      · exact timeOutMoves_outside _ _ _
      · exact .refl _
    · exact .refl _
  · exact .refl _

theorem abortToZero_outside (x : Prior) (o : Origin) : SameOutside s (abortToZero x o s) := by
  unfold abortToZero
  dsimp only
  split
  · exact (setArray_outside _ _).trans ((startTimer_outside _).trans (finishAbort_outside _ _))
  · exact (setArray_outside _ _).trans (startTimer_outside _)

theorem startAbort_outside (p : Option Slot) (x : Prior) (o : Origin) : SameOutside s (startAbort p x o s) := by
  unfold startAbort
  split
  · exact abortToZero_outside _ _ _
  · split
    · exact beginTransition_outside _ _
    · exact (raise_outside _ _).trans (handleFailure_outside _ _)

theorem abortTransition_outside (c : Context) (p : Port) : SameOutside s (abortTransition c p s) :=
  (endTransition_outside _).trans ((raise_outside _ _).trans ((makeRoomAtHead_outside _).trans
    (startAbort_outside _ _ _ _)))

/-! ### The Array Monitor -/

theorem raiseAll_outside {α : Type} (f : α → Notice) (xs : List α) :
    SameOutside s (xs.foldl (fun y x => raise (f x) y) s) := by
  induction xs generalizing s with
  | nil => exact .refl _
  | cons x xs ih => exact (raise_outside _ _).trans (ih _)

theorem monitorFailed_outside (p : Slot) (outs : List Tower) : SameOutside s (monitorFailed p outs s) := by
  unfold monitorFailed
  split
  · split
    · exact failSteady_outside _ _ _ _
    · exact .refl _
  · exact .refl _

theorem nextSteadyWindow_outside : SameOutside s (nextSteadyWindow s) := by
  unfold nextSteadyWindow
  split
  · exact restartWindow_outside _
  · exact .refl _

theorem completeWindow_outside (w : Window) : SameOutside s (completeWindow w s) := by
  unfold completeWindow
  split
  · exact (setMonRecords_outside _ _).trans ((setWindow_outside _ _).trans ((raiseAll_outside _ _ _).trans
      ((monitorFailed_outside _ _ _).trans (nextSteadyWindow_outside _))))
  · exact (setMonRecords_outside _ _).trans ((clearDuty_outside _).trans (verifyAnswered_outside _ _))

theorem phasorReport_outside (t : Tower) (z : Option Cpx) : SameOutside s (phasorReport t z s) := by
  unfold phasorReport
  split
  · split
    · dsimp only
      split
      · exact completeWindow_outside _ _
      · exact setWindow_outside _ _
    · exact .refl _
  · exact .refl _

theorem windowTimedOut_outside : SameOutside s (windowTimedOut s) := by
  unfold windowTimedOut
  split
  · split
    · exact completeWindow_outside _ _
    · exact .refl _
  · exact .refl _

/-! ### The Network Controller and the Tower Table -/

theorem dropHeldTarget_outside (t : Tower) : SameOutside s (dropHeldTarget t s) := by
  unfold dropHeldTarget
  split
  · exact setCommanded_outside _ _ _
  · exact .refl _

theorem addCause_outside (t : Tower) (u : UnusableCause) : SameOutside s (addCause t u s) := by
  unfold addCause
  dsimp only
  split
  · exact .refl _
  · have h : SameOutside s (raise (.towerFault t u)
        (s.setTower t { s.tower t with causes := (s.tower t).causes.add u })) :=
      (setTower_outside _ _ _).trans (raise_outside _ _)
    split
    · exact h
    · exact h.trans ((dropHeldTarget_outside _ _).trans ((forceZero_outside _ _).trans (towerUnusable_outside _ _ _)))

theorem examineTarget_outside (t : Tower) (r : Pos) : SameOutside s (examineTarget t r s) := by
  unfold examineTarget
  split
  · exact .refl _
  · split
    · exact setCommanded_outside _ _ _
    · split
      · exact startMove_outside _ _ _ _
      · exact (setCommanded_outside _ _ _).trans (moveRefused_outside _ _)

theorem settleReported_outside (t : Tower) (r : Pos) : SameOutside s (settleReported t r s) :=
  (examineTarget_outside _ _ _).trans (endSwitchIfDone_outside _)

theorem enterDrifting_outside (t : Tower) : SameOutside s (enterDrifting t s) :=
  (setNet_outside _ _ _).trans ((forceZero_outside _ _).trans (towerDrifts_outside _ _))

theorem moveCompleted_outside (t : Tower) (q : Pos) : SameOutside s (moveCompleted t q s) := by
  unfold moveCompleted
  dsimp only
  split
  · exact (setNet_outside _ _ _).trans ((raise_outside _ _).trans (settleReported_outside _ _ _))
  · exact (setNet_outside _ _ _).trans (settleReported_outside _ _ _)

theorem networkReport_outside (t : Tower) (r : NetReport) : SameOutside s (networkReport t r s) := by
  unfold networkReport
  split
  · exact (setNet_outside _ _ _).trans (settleReported_outside _ _ _)
  · exact enterDrifting_outside _ _
  · split
    · exact .refl _
    · exact (setNet_outside _ _ _).trans ((forceZero_outside _ _).trans ((addCause_outside _ _ _).trans
        (settleReported_outside _ _ _)))
  · exact (enterDrifting_outside _ _).trans (addCause_outside _ _ _)
  · split
    · exact moveCompleted_outside _ _ _
    · split
      · exact .refl _
      · exact (setNet_outside _ _ _).trans ((addCause_outside _ _ _).trans (settleReported_outside _ _ _))
  · exact .refl _
  · exact (setNet_outside _ _ _).trans (settleReported_outside _ _ _)
  · exact .refl _
  · exact (setNet_outside _ _ _).trans (settleReported_outside _ _ _)
  · exact .refl _

theorem paReport_outside (t : Tower) (b : Bool) : SameOutside s (paReport t b s) := by
  unfold paReport
  dsimp only
  split
  · exact (setTower_outside _ _ _).trans (addCause_outside _ _ _)
  · exact setTower_outside _ _ _

theorem returnSlot_outside (t : Tower) (r : Option SlotReport) : SameOutside s (returnSlot t r s) := by
  unfold returnSlot
  split
  · exact .refl _
  · split
    · exact (setTower_outside _ _ _).trans ((paReport_outside _ _ _).trans ((networkReport_outside _ _ _).trans
        (phasorReport_outside _ _ _)))
    · exact .refl _

theorem travelTimedOut_outside (t : Tower) : SameOutside s (travelTimedOut t s) := by
  unfold travelTimedOut
  dsimp only
  split
  · exact (setNet_outside _ _ _).trans (addCause_outside _ _ _)
  · exact .refl _

theorem silenceTimedOut_outside (t : Tower) : SameOutside s (silenceTimedOut t s) := by
  unfold silenceTimedOut
  dsimp only
  split
  · exact (setTower_outside _ _ _).trans (addCause_outside _ _ _)
  · exact .refl _

/-! ### Under the network laws no move request of SWITCH is refused (R67) -/

/-- Towers in service, within the array and at weight (0, 0) refuse no move request, so what a refusal would do does not
matter (R38, R67). -/
theorem sendMoves_fail_irrelevant (f g : Reason → Option Tower → State → State) (p : Slot) (ts : List Tower) :
    ∀ s : State, s.NetworkLaw →
      (∀ t ∈ ts, s.inArray t = true ∧ s.outOfService t = false ∧ s.live t = Cpx.zero) →
      sendMoves f p ts s = sendMoves g p ts s := by
  induction ts with
  | nil => intros; rfl
  | cons t ts ih =>
    intro s law ready
    obtain ⟨inside, service, zero⟩ := ready t (by simp)
    have standing : (s.net t).state ≠ .jammed := fun h => by
      simp [State.outOfService, State.unusable, Causes.any, (law t).2 h] at service
    have rest : ∀ n : NetRecord, n.state ≠ .jammed →
        sendMoves f p ts (s.setNet t n) = sendMoves g p ts (s.setNet t n) := fun n other =>
      ih _ (fun k => by
          rw [setNet_net]
          split
          · next same =>
            subst same
            exact ⟨fun h => by simp [State.inArray] at inside h; omega, fun h => absurd h other⟩
          · exact law k)
        fun k hk => ready k (by simp [hk])
    cases hst : (s.net t).state with
    | jammed => exact absurd hst standing
    | settled q =>
      by_cases there : q = (s.record p).wanted t
      · simpa [sendMoves, requestMove, setCommanded, inside, service, hst, there] using rest _ (by simp)
      · simpa [sendMoves, requestMove, startMove, inside, service, zero, hst, there] using rest _ (by simp)
    | _ => simpa [sendMoves, requestMove, setCommanded, inside, service, hst] using rest _ (by simp)

/-- So a FALLBACK transition begins as any other does (R63, R107). -/
theorem startFallback_eq_beginTransition (st : Start) (s : State) (law : s.NetworkLaw) :
    startFallback st s = beginTransition st s := by
  unfold startFallback beginTransition beginTransitionWith
  dsimp only
  split
  · rfl
  · next moving =>
    split
    · rfl
    · unfold beginSwitchWith
      dsimp only
      rw [sendMoves_fail_irrelevant failFallback failTransition]
      · exact law
      intro t ht
      have member : t ∈ switchSetFor (clearDuty s) st.target := ht
      simp only [switchSetFor, List.mem_filter, Bool.and_eq_true, Bool.not_eq_true'] at member
      refine ⟨member.2.1.1, member.2.1.2, Decidable.byContradiction fun h => moving ?_⟩
      exact List.any_eq_true.mpr ⟨t, ht, bne_iff_ne.mpr h⟩

end Sys2Proof.Machine
end

