-- ==== Sys2Proof/Laws/Events.lean ====
section
/-! SUPPORT. What the events of a tick leave alone, and the settling of what is due. -/

namespace Sys2Proof.Machine

variable (s : State)

theorem holdoverExpired_due (p : Port) : (holdoverExpired p s).due = s.due := by
  unfold holdoverExpired; split <;> simp

theorem changeover_due (p : Port) : (changeover p s).due = s.due := rfl

theorem takeover_due : (takeover s).due = s.due := by
  unfold takeover; split <;> rfl

theorem ownerLost_due : (ownerLost s).due = s.due := by
  unfold ownerLost
  split
  · dsimp only
    split
    · exact takeover_due _
    · rfl
  · rfl

theorem fireEntry_outside (e : ScheduleEntry) : SameOutside s (fireEntry e s) := by
  unfold fireEntry
  split
  · exact raise_outside _ _
  · exact offerOrder_outside _ _

theorem secondReached_due : (secondReached s).due = s.due := by
  unfold secondReached
  split
  · dsimp only
    split
    · exact (fireEntry_outside _ _).due
    · rfl
  · rfl

theorem contactOrder_outside (l : Line) (p : Slot) : SameOutside s (contactOrder l p s) := by
  unfold contactOrder
  dsimp only
  split
  · exact raise_outside _ _
  · split
    · exact raise_outside _ _
    · exact offerOrder_outside _ _

theorem muteChanged_outside (b : Bool) : SameOutside s (muteChanged b s) := by
  unfold muteChanged
  split
  · exact .refl _
  · exact restartWindow_outside _

theorem contactAction_outside (l : Line) (b : Bool) : SameOutside s (contactAction l b s) := by
  unfold contactAction
  split
  · exact .refl _
  · split
    · exact contactOrder_outside _ _ _
    · exact .refl _
  · split <;> exact contactOrder_outside _ _ _
  · exact muteChanged_outside _ _

theorem contactChanged_due (l : Line) : (contactChanged l s).due = s.due := by
  unfold contactChanged
  dsimp only
  split
  · exact (contactAction_outside _ _ _).due
  · rfl

theorem stepTimerExpired_outside : SameOutside s (stepTimerExpired s) := by
  unfold stepTimerExpired
  split
  · exact SameOutside.trans (by constructor <;> rfl) (takeStep_outside _)
  · exact .refl _

/-- An event of a tick leaves the list of events due as it is. -/
theorem runEvent_due (e : TickEvent) : (runEvent e s).due = s.due := by
  cases e with
  | stepTimer => exact (stepTimerExpired_outside s).due
  | switchWait => exact (switchTimedOut_outside s).due
  | travel t => exact (travelTimedOut_outside s t).due
  | silence t => exact (silenceTimedOut_outside s t).due
  | windowLimit => exact (windowTimedOut_outside s).due
  | holdover p => exact holdoverExpired_due s p
  | ownerLoss => exact ownerLost_due s
  | second => exact secondReached_due s
  | contact l => exact contactChanged_due s l

theorem runEvents_due (es : List TickEvent) : (es.foldl (fun x e => runEvent e x) s).due = s.due := by
  induction es generalizing s with
  | nil => rfl
  | cons e es ih => exact (ih _).trans (runEvent_due _ _)

/-- After the settling nothing is due. -/
theorem settle_due : (settle s).due = [] := runEvents_due _ _

theorem settle_settle : settle (settle s) = settle s := settle_of_due_nil _ (settle_due s)

theorem takeDue_of_due {e : TickEvent} (h : e ∈ s.due) : takeDue e s = runEvent e (s.setDue (s.due.erase e)) := by
  simp [takeDue, h]

theorem takeDue_of_not_due {e : TickEvent} (h : e ∉ s.due) : takeDue e s = s := by
  simp [takeDue, h]

end Sys2Proof.Machine
end

