-- ==== Sys2Proof/WellFormed.lean ====
section
/-! DEFINITION. Which commands are well formed: the bytes of a frame command spell a frame of the command's own
kind, and the event of a tick names a tower 1 to 12 or a line 1 to 4. The operands of a request have the widths
of the link, so every request is well formed; an operand out of its range is answered by the request's own rule. -/

namespace Sys2Proof

/-- The check of one command. -/
def wellFormed : Instr → Bool
  | .sampleFrame _ bytes =>
    match decodeSourceFrame bytes with
    | some (.sample _ _) => true
    | _ => false
  | .requestFrame _ bytes =>
    match decodeSourceFrame bytes with
    | some (.requestFirst _ _ _ _) => true
    | some (.requestNext _) => true
    | _ => false
  | .idleFrame _ bytes =>
    match decodeSourceFrame bytes with
    | some .idle => true
    | _ => false
  | .discardedSourceFrame _ bytes => (decodeSourceFrame bytes).isNone
  | .travelLimitReached tower => decide (1 ≤ tower ∧ tower ≤ 12)
  | .silenceTimeReached tower => decide (1 ≤ tower ∧ tower ≤ 12)
  | .contactDebouncedChange line => decide (1 ≤ line ∧ line ≤ 4)
  | .powerOnReset _ => true
  | .millisecondTick _ => true
  | .frameTimerExpiry => true
  | .towerReturnFrame _ => true
  | .stepTimerExpiry => true
  | .switchWaitTimeout => true
  | .windowLimitReached => true
  | .holdoverExpiry _ => true
  | .ownerLoss => true
  | .secondAdvance => true
  | .stationSetupArraySize _ _ _ => true
  | .stationSetupFrameRate _ _ _ => true
  | .stationSetupStepPeriod _ _ _ => true
  | .stationSetupDropLength _ _ _ => true
  | .stationSetupCeiling _ _ _ => true
  | .stationSetupTravelWarn _ _ _ => true
  | .stationSetupTravelLimit _ _ _ => true
  | .stationSetupSilenceTime _ _ _ => true
  | .stationSetupMonWindow _ _ _ => true
  | .stationSetupWindowLimit _ _ _ => true
  | .stationSetupVerifyTries _ _ _ => true
  | .stationSetupFailLimit _ _ _ => true
  | .stationSetupHoldover _ _ _ => true
  | .stationSetupDebounce _ _ _ => true
  | .stationQuery _ _ _ => true
  | .statusQuery _ _ => true
  | .counterClear _ _ => true
  | .unitReset _ _ => true
  | .noticeSetup _ _ _ _ _ => true
  | .patternOpen _ _ _ => true
  | .patternHeader _ _ _ _ _ _ _ _ _ _ => true
  | .towerEntry _ _ _ _ _ _ _ _ _ _ => true
  | .towerEntryRemove _ _ _ _ => true
  | .patternClose _ _ _ => true
  | .patternErase _ _ _ => true
  | .patternRead _ _ _ _ => true
  | .weightTrim _ _ _ _ _ _ => true
  | .shift _ _ _ => true
  | .shiftCancel _ _ => true
  | .abort _ _ => true
  | .towerLockout _ _ _ _ => true
  | .towerRestore _ _ _ => true
  | .towerStatus _ _ _ => true
  | .timeSet _ _ _ _ => true
  | .scheduleAdd _ _ _ _ _ => true
  | .scheduleDelete _ _ _ => true
  | .scheduleClear _ _ => true
  | .scheduleHold _ _ _ => true
  | .scheduleRead _ _ _ => true
  | .contactSetup _ _ _ _ _ _ _ => true
  | .setPreferredPort _ _ _ => true
  | .setChangeoverMode _ _ _ => true
  | .clearBar _ _ _ => true
  | .forceOwner _ _ _ => true

end Sys2Proof
end

