-- ==== Sys2Proof/Tests/Slice0.lean ====
section
/-! SUPPORT. Tests of one step each, with their expected values from the worked cases of the manual or from hand
calculation by its rules; the checks of well-formedness; and for each statement a witness that its hypotheses can be
met, named after the statement. -/

namespace Sys2Proof.Tests

open Sys2Proof.Machine

set_option Elab.async false

/-! ### Well-formedness: each check refuses an ill-formed command -/

theorem test_wellFormed_sample_refuses_idle_bytes : wellFormed (.sampleFrame .A [3, 0, 3]) = false := by decide
theorem test_wellFormed_sample_accepts : wellFormed (.sampleFrame .A [1, 0, 0, 2, 0, 3, 0, 6]) = true := by decide
theorem test_wellFormed_request_refuses_sample_bytes :
    wellFormed (.requestFrame .B [1, 0, 0, 2, 0, 3, 0, 6]) = false := by decide
theorem test_wellFormed_request_accepts : wellFormed (.requestFrame .B [2, 129, 15, 7, 5, 0, 0, 0, 0, 158]) = true := by
  decide
theorem test_wellFormed_idle_refuses_bad_check : wellFormed (.idleFrame .A [3, 0, 4]) = false := by decide
theorem test_wellFormed_idle_accepts : wellFormed (.idleFrame .A [3, 0, 3]) = true := by decide
theorem test_wellFormed_discarded_refuses_good_frame : wellFormed (.discardedSourceFrame .A [3, 0, 3]) = false := by decide
theorem test_wellFormed_travel_refuses_0_and_13 :
    wellFormed (.travelLimitReached 0) = false ∧ wellFormed (.travelLimitReached 13) = false := by decide
theorem test_wellFormed_silence_refuses_0_and_13 :
    wellFormed (.silenceTimeReached 0) = false ∧ wellFormed (.silenceTimeReached 13) = false := by decide
theorem test_wellFormed_contact_refuses_0_and_5 :
    wellFormed (.contactDebouncedChange 0) = false ∧ wellFormed (.contactDebouncedChange 5) = false := by decide

/-! ### Small states: the station of three towers with a day and a night pattern (spec 1.4, 4.10, 5.5) -/

/-- Tower k of the night pattern: its weight, position, expected phasor and tolerance. -/
def entry (k : Tower) (w : Cpx) (p : Pos) (x : Cpx) (tol : Nat) : Entry :=
  { tower := k, loaded := w, position := p, expected := x, tolerance := tol, trim := ⟨0, 0⟩ }

def nightEntries : List Entry :=
  [entry 0 ⟨16384, 0⟩ 1 ⟨16384, 0⟩ 0, entry 1 ⟨8192, -8192⟩ 1 ⟨8192, -8192⟩ 10, entry 2 ⟨0, 11585⟩ 3 ⟨0, 11585⟩ 12]

def nightHeader : Header :=
  { reference := some 0, park := 0, cap := 8192, ramp := 3, trimLimit := 200, fallback := some 0,
    monitorFallback := true }

/-- The day pattern drives towers 1 and 2, tests none, and names no fallback. -/
def dayEntries : List Entry := [entry 0 ⟨12000, 0⟩ 0 ⟨0, 0⟩ 0, entry 1 ⟨-7001, 100⟩ 0 ⟨0, 0⟩ 0]

def dayHeader : Header :=
  { reference := some 0, park := 0, cap := 8192, ramp := 2, trimLimit := 0, fallback := none, monitorFallback := false }

def settledAt (p : Pos) : NetRecord := { state := .settled p, commanded := none, travelTimer := 0, lastTravel := 0 }

def nightWeights : Vector Cpx 12 := tab fun k => (PatternRecord.ready nightHeader nightEntries).weightFor k

/-- The station at rest, every tower of it present and settled at 0, the night pattern in slot 5 and the day pattern
in slot 0. -/
def rest : State :=
  { State.reset with
    settings := { Settings.initial with arraySize := 3, dropLength := 2, monWindow := 4, verifyTries := 2, failLimit := 1 }
    patterns := ((State.reset.patterns.set 5 (.ready nightHeader nightEntries)).set 0 (.ready dayHeader dayEntries)).set 2
      (.opened dayHeader dayEntries)
    nets := tab fun k => if k.val < 3 then settledAt 0 else NetRecord.initial
    link := { State.reset.link with towers := tab fun k => { TowerEntry.initial with present := decide (k.val < 3) } } }

/-- The night pattern on the air, its window begun. -/
def steadyNight : State :=
  let s : State :=
    { rest with
      engine := { rest.engine with live := nightWeights }
      nets := tab fun k => if k.val < 2 then settledAt 1 else if k.val = 2 then settledAt 3 else NetRecord.initial
      shift := { rest.shift with array := .steady 5 }
      monitor := { rest.monitor with duty := .steady 5 } }
  { s with monitor := { s.monitor with window := freshWindow s 5 } }

/-- A transition from the day pattern to the night pattern, in the phase and at the step given. -/
def context (phase : Phase) (step : Nat) (total : Option Nat) : Context :=
  { source := some 0, prior := .steady, target := some 5, cause := .manual, origin := some (.port .A), phase := phase,
    switchSet := [0, 1, 2], stepCount := step, stepTotal := total
    startA := tab fun k => (PatternRecord.ready dayHeader dayEntries).weightFor k
    endB := if phase = .cross then nightWeights else Vector.replicate 12 ⟨0, 0⟩, switchWait := 0, verifyUsed := 0
    safeFor := none }

def shiftingWith (c : Context) (running : Bool) : State :=
  { rest with shift := { rest.shift with array := .shifting c, timer := { counter := 1, running := running } } }

/-- The state with the step timer just expired. -/
def stepDue (c : Context) : State :=
  { shiftingWith c true with
    shift := { (shiftingWith c true).shift with timer := { counter := 0, running := true } }, due := [.stepTimer] }

/-- A drop to zero at its last step. -/
def dropToZero (cause : OrderCause) : Context :=
  { context .drop 1 (some 2) with
    target := none, cause := cause, switchSet := [],
    safeFor := if cause = .safe then some (5, .towerFault) else none }

/-- SWITCH to the night pattern, waiting since TRAVEL_LIMIT. -/
def switching (ts : List Tower) (states : Tower → NetState) : State :=
  let s := shiftingWith { context .switch 0 none with switchSet := ts, switchWait := 1000 } false
  { s with due := [.switchWait], nets := tab fun k => { s.net k with state := states k } }

/-- The window of the night pattern with the same report counted four times for each of the three towers. -/
def fullWindow (m : Tower → Cpx) : Window :=
  { pattern := 5, reference := 0, tests := testsOf nightEntries 0, reports := 4, limit := 2000, timer := 2000
    acc := tab fun k => { count := 4, sum := ⟨4 * (m k).re, 4 * (m k).im⟩ } }

/-- Reports that pass every test of the night pattern, and reports at which tower 3 fails (spec 5.5). -/
def goodReports (k : Tower) : Cpx := if k = 0 then ⟨10000, 0⟩ else if k = 1 then ⟨5100, -4900⟩ else ⟨0, 7071⟩
def badReports (k : Tower) : Cpx := if k = 2 then ⟨-400, 6950⟩ else goodReports k

def windowDue (duty : Duty) (s : State) (w : Window) : State :=
  { s with monitor := { s.monitor with duty := duty, window := some w }, due := [.windowLimit] }

/-- VERIFY of the night pattern after `used` windows. -/
def verifying (used : Nat) (w : Window) : State :=
  windowDue (.verify 5) (shiftingWith { context .verify 0 none with verifyUsed := used } false) w

/-- The step's state where it answers one, the state itself where it does not. -/
def after (c : Instr) (s : State) : State :=
  match exec c s with
  | .next t => t
  | _ => s

/-- The reply that stands in a port's slot. -/
def replyOf (p : Port) (s : State) : Option Reply := (s.port p).slot.map fun x => x.reply

/-! ### Worked values of the manual -/

/-- Spec 2.2: sample (20000, −1500), weight (11585, −11585). -/
theorem test_drive_value : driveValue ⟨20000, -1500⟩ ⟨11585, -11585⟩ = ⟨13081, -15202⟩ := by decide
/-- Spec 2.2: slots 2 and 3 of the night pattern. -/
theorem test_drive_value_night :
    driveValue ⟨20000, -1500⟩ ⟨8192, -8192⟩ = ⟨9250, -10750⟩ ∧ driveValue ⟨20000, -1500⟩ ⟨0, 11585⟩ = ⟨1061, 14142⟩ := by
  decide
/-- Spec 4.5: DROP of (11585, 11585) over 4 steps, and of −7001 over 2. -/
theorem test_drop_values :
    [1, 2, 3, 4].map (dropValue 11585 4) = [8688, 5792, 2896, 0] ∧ [1, 2].map (dropValue (-7001) 2) = [-3500, 0] := by
  decide
/-- Spec 4.7: CROSS from 12000 to −4000 over 3 steps. -/
theorem test_cross_values : [1, 2, 3].map (crossValue 12000 (-4000) 3) = [6666, 1333, -4000] := by decide
/-- Spec 1.4: the raw power of the night pattern, within cap 8192 and not within 8191. -/
theorem test_raw_power :
    rawPower nightEntries = 536865409 ∧ withinCap (rawPower nightEntries) 8192 = true
      ∧ withinCap (rawPower nightEntries) 8191 = false := by decide
/-- Spec 5.4 and 5.5: the deviations of towers 2 and 3. -/
theorem test_deviations :
    (fullWindow badReports).judge 1 = (.pass, 6) ∧ (fullWindow badReports).judge 2 = (.fail, 16) := by decide +kernel
/-- R3: an effective weight that clamps in both components. -/
theorem test_effective_weight_clamps :
    ({ entry 0 ⟨32700, -32767⟩ 0 ⟨0, 0⟩ 0 with trim := ⟨200, -2048⟩ } : Entry).effective = ⟨32767, -32767⟩ := by decide

/-! ### Frames, byte by byte (R176, R177, R181) -/

/-- A Sample Frame of (256 × 2 + 1, −2) with its claim flag set. -/
theorem test_decode_sample : decodeSourceFrame [1, 1, 2, 1, 255, 254, 2, 2] = some (.sample ⟨513, -2⟩ true) := by decide
/-- The first of three frames of request code 8, tag 9. -/
theorem test_decode_request_first :
    decodeSourceFrame [2, 131, 8, 9, 5, 1, 0, 0, 0, 156] = some (.requestFirst 3 8 9 [5, 1, 0]) := by decide
theorem test_decode_request_next :
    decodeSourceFrame [2, 0, 1, 2, 3, 4, 5, 6, 0, 23] = some (.requestNext [1, 2, 3, 4, 5, 6]) := by decide
/-- A return slot: filled, SETTLED at 3, PA FAULT, phasor (−1, 1). -/
theorem test_decode_return_slot :
    decodeReturnSlot [188, 255, 255, 0, 1] = some { network := .settled 3, paFault := true, phasor := some ⟨-1, 1⟩ } := by
  decide +kernel
/-- A Drive Frame slot: drive-valid and moving to 2, drive (−1, 256). -/
theorem test_drive_slot_bytes :
    ({ valid := true, move := some 2, drive := ⟨-1, 256⟩ } : DriveSlot).bytes = [194, 255, 255, 1, 0] := by decide

/-! ### One step each -/

/-- Spec 1.6: the trim of −300 is clamped to −200 and reaches the live weight; that of +5 is refused with its power. -/
theorem test_weight_trim :
    (after (.weightTrim .A 1 5 1 (-300) 0) steadyNight).live 0 = ⟨16184, 0⟩
      ∧ replyOf .A (after (.weightTrim .A 1 5 1 5 0) steadyNight)
        = some (checkFailed .capExceeded (u40 537029274)) := by decide +kernel
/-- R11: with cap 8191 the night pattern does not close. -/
theorem test_pattern_close_cap :
    replyOf .A (after (.patternClose .A 1 3)
      (rest.setRecord 3 (.opened { nightHeader with cap := 8191 } nightEntries)))
      = some (checkFailed .capExceeded (u40 536865409)) := by decide +kernel
/-- Spec 3.6: a move of 310 ms ends with CONTACTOR_SLOW. -/
theorem test_contactor_slow :
    ((networkReport 1 (.settled 1)
      (rest.setNet 1 { state := .moving 1 0, commanded := some 1, travelTimer := 310, lastTravel := 0 })).noticeSource 9).pending
      = some (.contactorSlow 1 310) := by decide +kernel
/-- Spec 3.6: a settle elsewhere is WRONG_POSITION. -/
theorem test_wrong_position :
    ((networkReport 1 (.settled 3)
      (rest.setNet 1 { state := .moving 1 0, commanded := some 1, travelTimer := 290, lastTravel := 0 })).tower 1).causes.wrongPosition
      = true := by decide +kernel
/-- R63: a Shift from rest with every weight zero and two networks elsewhere begins SWITCH with both moves. -/
theorem test_shift_begins_switch :
    ((after (.shift .A 1 5) rest).net 1).state = .moving 1 0 ∧ ((after (.shift .A 1 5) rest).net 2).state = .moving 3 0 := by
  decide +kernel
/-- R63: a Shift to a pattern at its positions begins CROSS at once. -/
theorem test_shift_begins_cross :
    ((after (.shift .A 1 0) rest).shift.array.context.map fun c => c.phase) = some .cross := by decide +kernel
/-- Spec 8.5: a claiming frame of the other port bars it. -/
theorem test_claim_bars :
    ((after (.sampleFrame .B [1, 1, 0, 2, 0, 3, 0, 7]) rest).port .B).barred = true := by decide +kernel
/-- Spec 9.5: DEBOUNCE 3 is exceeded by the fourth sample. -/
theorem test_debounce_fourth_tick :
    (after (.millisecondTick ⟨2, 2⟩) { rest with
        settings := { rest.settings with debounce := 3 }
        lines := rest.lines.set 1 { (rest.line 1) with count := 3 } }).due = [.contact 1]
      ∧ (after (.millisecondTick ⟨2, 2⟩) { rest with
        settings := { rest.settings with debounce := 3 }
        lines := rest.lines.set 1 { (rest.line 1) with count := 2 } }).due = [] := by decide +kernel
/-- R158 with DEBOUNCE 0: line 1 goes high behind a tick, a Contact Setup takes the high level, and the tick that samples
it then takes no action; without the Setup that tick makes the change due. -/
theorem test_setup_before_tick :
    let s := after (.millisecondTick ⟨0, 1⟩) { rest with settings := { rest.settings with debounce := 0 } }
    ((after (.contactSetup .A 1 1 0 1 5 0) s).line 0).active = true
      ∧ (after (.millisecondTick ⟨1, 1⟩) (after (.contactSetup .A 1 1 0 1 5 0) s)).due = []
      ∧ (after (.millisecondTick ⟨1, 1⟩) s).due = [.contact 0] := by decide +kernel
/-- R64: a counter that the tick brings to 0 is reloaded by the failure that the same tick's silence brings, and stands so
in the SWITCH of the fallback. -/
theorem test_stopped_counter_reloaded :
    let s := { (shiftingWith (context .drop 0 (some 2)) true) with
      settings := { rest.settings with stepPeriod := 7 }
      nets := rest.nets.set 0 (settledAt 1)
      link := { rest.link with towers := rest.link.towers.set 2 { rest.tower 2 with silenceTimer := 19 } } }
    let t := after (.millisecondTick ⟨0, 0⟩) s
    t.due = [.stepTimer, .silence 2] ∧ t.shift.timer = { counter := 0, running := true }
      ∧ (after (.silenceTimeReached 3) t).shift.timer = { counter := 7, running := false }
      ∧ (after (.silenceTimeReached 3) t).shift.array.context.map (fun c => (c.cause, c.phase)) = some (.fallback, .switch)
      ∧ (after .stepTimerExpiry (after (.silenceTimeReached 3) t)).shift.timer = { counter := 7, running := false } := by
  decide +kernel
/-- R148: the second after 86399 is 0 of the next weekday. -/
theorem test_midnight :
    (after .secondAdvance { rest with
      due := [.second], timebase := { rest.timebase with clock := .running, second := 86399, weekday := 6, subsecond := 999 } }).timebase
      = { rest.timebase with clock := .running, second := 0, weekday := 0, subsecond := 0 } := by decide +kernel
/-- R106: from the night pattern the first link is the day pattern. -/
theorem test_resolution : resolve rest 5 = (some 0, 1) ∧ resolve rest 0 = (none, 1) := by decide +kernel
/-- R102, R107: a PA fault of a driven tower starts the fallback. -/
theorem test_pa_fault_starts_fallback :
    ((addCause 2 .paFault steadyNight).shift.array.context.map fun c => (c.target, c.cause)) = some (some 0, .fallback) := by
  decide +kernel
/-- R131: the tick brings the age to HOLDOVER. -/
theorem test_owner_loss_due :
    (after (.millisecondTick ⟨0, 0⟩) { rest with portA := { rest.portA with age := 49, present := true } }).due
      = [.holdover .A, .ownerLoss] := by decide +kernel

/-! ### Witnesses: for each statement with hypotheses, states and operands that meet them, clause by clause -/

/-- Every counter of the part one tick below its limit, but for the switch wait (`switchingAtLimit`). -/
def atLimits : State :=
  { steadyNight with
    shift :=
      { steadyNight.shift with
        array := .shifting (context .drop 0 (some 2)), timer := { counter := 1, running := true } }
    nets := steadyNight.nets.set 1 { state := .moving 1 0, commanded := some 1, travelTimer := 999, lastTravel := 0 }
    link :=
      { steadyNight.link with towers := steadyNight.link.towers.set 2 { TowerEntry.initial with silenceTimer := 19 } }
    monitor := { steadyNight.monitor with window := some { fullWindow goodReports with timer := 1999 } }
    portA := { steadyNight.portA with age := 49, present := true }
    timebase := { steadyNight.timebase with clock := .running, subsecond := 999 }
    lines := steadyNight.lines.set 3 { steadyNight.line 3 with count := 10 } }

/-- SWITCH with the switch wait one tick below TRAVEL_LIMIT, or at the top of its range. -/
def switchingAtLimit (wait : Nat) : State :=
  let s := shiftingWith { context .switch 0 none with switchWait := wait } false
  { s with portA := { s.portA with age := 65535 } }

/-- A port whose reply slot is FULL with a reply of so many value bytes. -/
def slotFull (p : Port) (values : Nat) (s : State) : State :=
  s.setPort p
    { s.port p with
      slot := some { request := 3, tag := 1, reply := replyOk (List.replicate values 0), sent := 0 } }

/-- A port that is ASSEMBLING a request of three frames, of which it has taken some. -/
def assembling (p : Port) (taken : Nat) (s : State) : State :=
  s.setPort p { s.port p with assembly := .assembling 8 7 3 taken [5, 1, 0] }

/-- A tower with a cause. -/
def lost (k : Tower) (s : State) : State := s.setTower k { s.tower k with causes := Causes.none.add .silent }

theorem witness_Step_runs_front_command :
    rest.pending = [] ∧ step rest = .next rest
      ∧ step { rest with pending := [.shift .A 1 5] } = exec (.shift .A 1 5) rest := ⟨rfl, rfl, rfl⟩

theorem witness_Commands_and_due_events :
    isTickEvent .frameTimerExpiry = false ∧ isPowerOn .frameTimerExpiry = false
      ∧ (stepDue (dropToZero .safe)).due ≠ [] ∧ (settle (stepDue (dropToZero .safe))).shift.array = .safe
      ∧ rest.due = [] ∧ (stepDue (dropToZero .safe)).due = [.stepTimer] := by
  decide +kernel

theorem witness_Tick_advances_counters :
    atLimits.due = [] ∧ (switchingAtLimit 999).due = []
      ∧ (switchingAtLimit 5000).shift.array = .shifting { context .switch 0 none with switchWait := 5000 }
      ∧ ((switchingAtLimit 5000).port .A).age = 65535 := by decide +kernel

/-- Each event is due where its counter reaches its limit, and none is where they stand lower. -/
theorem witness_Tick_makes_events_due :
    (after (.millisecondTick ⟨8, 8⟩) atLimits).due
        = [.stepTimer, .travel 1, .silence 2, .windowLimit, .holdover .A, .ownerLoss, .second, .contact 3]
      ∧ (after (.millisecondTick ⟨0, 0⟩) (switchingAtLimit 999)).due = [.switchWait, .ownerLoss]
      ∧ (after (.millisecondTick ⟨0, 0⟩) rest).due = [] := by decide +kernel

theorem witness_Request_turned_away :
    requestOrigin (.abort .A 9) = some (.A, 17, 9) ∧ rest.due = []
      ∧ ((slotFull .A 0 rest).port .A).slot.isSome = true ∧ ((slotFull .A 0 rest).port .A).assembly = .idle
      ∧ ((assembling .A 1 (slotFull .A 0 rest)).port .A).assembly = .assembling 8 7 3 1 [5, 1, 0]
      ∧ ((assembling .A 1 (slotFull .A 0 rest)).port .A).slot.isSome = true
      ∧ ((assembling .A 2 rest).port .A).assembly = .assembling 8 7 3 2 [5, 1, 0]
      ∧ ((assembling .A 2 rest).port .A).slot = none := by decide +kernel

theorem witness_Refused_request_changes_nothing :
    requestOrigin (.abort .A 9) = some (.A, 17, 9) ∧ rest.admits .A
      ∧ replyOf .A (after (.abort .A 9) rest) = some (refuse .badState)
      ∧ replyOf .A (after (.weightTrim .A 1 5 1 5 0) rest) = some (checkFailed .capExceeded (u40 537029274)) := by
  decide +kernel

theorem witness_Request_command_equals_its_frames :
    requestOrigin (.weightTrim .A 1 5 1 5 0) = some (.A, 14, 1)
      ∧ requestFrames (.weightTrim .A 1 5 1 5 0)
        = [.requestFrame .A [2, 130, 14, 1, 5, 1, 0, 0, 0, 153], .requestFrame .A [2, 0, 5, 0, 0, 0, 0, 0, 0, 7]] := by
  decide +kernel

theorem witness_Frames_round_trip :
    (frameFits (.sample ⟨-32768, 32767⟩ true) ∧ frameFits (.sample ⟨0, 0⟩ false)) ∧ frameFits (.requestFirst 7 28 255 [1, 2, 3])
      ∧ frameFits (.requestFirst 0 0 0 [0, 0, 0]) ∧ frameFits (.requestNext [1, 2, 3, 4, 5, 6]) ∧ frameFits .idle
      ∧ reportFits { network := .travel, paFault := true, phasor := some ⟨32767, -32768⟩ }
      ∧ reportFits { network := .settled 3, paFault := false, phasor := none } := by
  simp [frameFits, reportFits, InSigned16]

theorem witness_Drive_value_rule :
    (InSigned16 (-32768) ∧ InSigned16 32767 ∧ InWeight (-32767) ∧ InWeight 32767)
      ∧ (driveProduct ⟨-32768, -32768⟩ ⟨-32767, 32767⟩).re = 2147418112
      ∧ 2 * (16384 * roundDrive 8192 - 8192).natAbs = 16384 := by decide +kernel

def filled (state : BufferState) (n underruns overruns : Nat) : Buffer :=
  { fifo := List.replicate n ⟨5, 6⟩, state := state, held := ⟨1, 2⟩, underruns := underruns, overruns := overruns }

theorem witness_Buffer_gives_one_sample :
    rest.due = [] ∧ ((filled .priming 7 0 0).push ⟨9, 9⟩).take.state = .running
      ∧ (filled .running 16 65534 65534).push ⟨9, 9⟩ = filled .running 16 65534 65535
      ∧ (filled .running 0 65534 0).take = filled .running 0 65535 0
      ∧ (filled .running 16 65535 65535).push ⟨9, 9⟩ = filled .running 16 65535 65535
      ∧ (filled .running 0 65535 0).take = filled .running 0 65535 0
      ∧ ((filled .running 3 0 0).fifo = [⟨5, 6⟩, ⟨5, 6⟩, ⟨5, 6⟩] ∧ (filled .running 0 65535 0).fifo = []) := by
  decide +kernel

/-- A running buffer at its largest sample, with a tower out of service: the others clamp. -/
def loud : State :=
  lost 2 { steadyNight with
    engine := { steadyNight.engine with live := Vector.replicate 12 ⟨32767, 32767⟩ }
    buffer := { filled .running 1 0 0 with fifo := [⟨32767, -32768⟩] } }

theorem witness_Frame_expiry_drives :
    loud.due = [] ∧ (after .frameTimerExpiry loud).engine.saturation.toList = [1, 1, 0, 0, 0, 0, 0, 0, 0, 0, 0, 0] := by
  decide +kernel

/-- The reply slots that an expiry empties and keeps; the notice it sends on the owner's port alone. -/
theorem witness_Frame_expiry_returns :
    loud.due = [] ∧ loud.selector.owner = .A ∧ (loud.port .A).slot = none
      ∧ chosenSource (emitDrive (loud.setBuffer loud.buffer.take)) = some 11 ∧ chosenSource (emitDrive rest) = none
      ∧ (((after .frameTimerExpiry (slotFull .B 7 loud)).port .B).slot = none
        ∧ ((after .frameTimerExpiry (slotFull .A 8 loud)).port .A).slot.map (fun r => r.sent) = some 1)
      ∧ (loud.port .B).slot = none := by decide +kernel

/-- The summary of STEADY 5 and of SHIFTING in CROSS, a notice with its repeat bit, and a reply of two frames. -/
theorem test_return_frame_bytes :
    steadyNight.statusByte1 = 104 ∧ (shiftingWith (context .cross 1 (some 3)) true).statusByte1 = 132
      ∧ (lost 1 rest).statusByte2 = 64
      ∧ noticeBody (.contactorSlow 1 310) true = [10, 1, 2, 1, 54, 0, 0, 0, 0, 0, 0, 0]
      ∧ returnFrameBytes 104 0 .nothing = [129, 104, 0, 0, 0, 0, 0, 0, 0, 0, 0, 0, 0, 0, 0, 0, 0, 233]
      ∧ replyFrames (replyOk (List.replicate 7 0)) = 1 ∧ replyFrames (replyOk (List.replicate 8 0)) = 2
      ∧ replyBody { request := 5, tag := 9, reply := refuse .busy, sent := 0 } 0 = [5, 9, 6, 0, 1, 0, 0, 0, 0, 0, 0, 0] := by
  decide +kernel

theorem witness_Notices_raised_and_chosen :
    (rest.noticeSource 6).enabled = true ∧ (rest.noticeSource 6).pending = none
      ∧ ((raise (.driveLost .A) rest).noticeSource 6).pending.isSome = true
      ∧ ((after (.noticeSetup .A 1 7 0 1) rest).noticeSource 6).enabled = false
      ∧ chosenSource (raise (.safeEntered 5 .towerFault) (raise (.driveLost .A) rest)) = some 0
      ∧ chosenSource (raise (.driveLost .A) rest) = some 6 ∧ chosenSource rest = none
      ∧ rest.admits .A ∧ replyOf .A (after (.noticeSetup .A 1 13 0 1) rest) = some (replyOk [1, 0])
      ∧ replyOf .A (after (.noticeSetup .A 1 14 0 1) rest) = some (refuse .badValue) := by decide +kernel

theorem witness_Ramp_step_writes_weights :
    (∀ c ∈ [context .drop 0 (some 2), context .cross 1 (some 3)],
      .stepTimer ∈ (stepDue c).due ∧ (stepDue c).shift.timer = { counter := 0, running := true }
        ∧ (stepDue c).shift.array = .shifting c ∧ (c.phase = .drop ∨ c.phase = .cross)
        ∧ (c.stepTotal = some (c.stepCount + 2)))
      ∧ (after .stepTimerExpiry (stepDue (context .drop 0 (some 2)))).live 1 = ⟨-3500, 50⟩
      ∧ (let c := { context .drop 1 (some 2) with switchSet := [1, 2] }
        (.stepTimer ∈ (stepDue c).due ∧ (stepDue c).shift.timer = { counter := 0, running := true }
            ∧ (stepDue c).shift.array = .shifting c ∧ c.phase = .drop ∧ c.target = some 5 ∧ c.stepTotal = some 2
            ∧ c.stepCount + 1 = 2)
          ∧ (∀ k ∈ c.switchSet, k.val < (stepDue c).settings.arraySize ∧ (stepDue c).outOfService k = false
            ∧ ((stepDue c).net k).state ≠ .jammed)
          ∧ ((after .stepTimerExpiry (stepDue c)).net 1).state = .moving 1 0
          ∧ (after .stepTimerExpiry (stepDue c)).shift.array.context.map (fun c => c.phase) = some .switch
          ∧ (after .stepTimerExpiry (stepDue c)).live 0 = ⟨12000, 0⟩ ∧ (after .stepTimerExpiry (stepDue c)).live 1 = ⟨0, 0⟩) := by
  decide +kernel

theorem witness_Ramp_arithmetic_and_power :
    (dropValue (-7001) 2 1 = -3500 ∧ crossValue 12000 (-4000) 3 3 = -4000 ∧ (1 < 2 ∧ 3 ≤ 3))
      ∧ powerOf nightWeights ≤ 8192 * 65536 ∧ powerOf (context .cross 1 (some 3)).startA ≤ 8192 * 65536 ∧ 3 ≤ 3 := by
  decide +kernel

theorem witness_Drop_to_zero_ends :
    (∀ cause ∈ [OrderCause.safe, .abort],
      .stepTimer ∈ (stepDue (dropToZero cause)).due
        ∧ (stepDue (dropToZero cause)).shift.timer = { counter := 0, running := true }
        ∧ (stepDue (dropToZero cause)).shift.array = .shifting (dropToZero cause)
        ∧ (dropToZero cause).phase = .drop ∧ (dropToZero cause).target = none ∧ (dropToZero cause).stepTotal = some 2
        ∧ (dropToZero cause).stepCount + 1 = 2 ∧ (dropToZero cause).cause = cause)
      ∧ (dropToZero .safe).safeFor = some (5, .towerFault) := by decide +kernel

theorem witness_Cross_ends :
    (∀ c ∈ [context .cross 2 (some 3), { context .cross 2 (some 3) with target := some 0 }],
      .stepTimer ∈ (stepDue c).due ∧ (stepDue c).shift.timer = { counter := 0, running := true }
        ∧ (stepDue c).shift.array = .shifting c ∧ c.phase = .cross ∧ c.stepTotal = some 3 ∧ c.stepCount + 1 = 3)
      ∧ ((stepDue (context .cross 2 (some 3))).record 5).tested = true
      ∧ ((stepDue (context .cross 2 (some 3))).record 0).tested = false := by decide +kernel

/-- The switch set all satisfied; a tower of it that the target does not drive stuck; one that it drives stuck. -/
theorem witness_Switch_wait_timeout :
    let settled := switching [0, 1, 2] fun k => .settled (if k = 2 then 3 else 1)
    let parked := switching [1, 3] fun k => if k = 3 then .jammed else .moving 1 0
    let stuck := switching [0, 1, 2] fun k => if k = 2 then .unknown else .moving 1 0
    ((settled.record 5).header = some nightHeader
        ∧ (endSwitchIfDone settled).shift.array.context.map (fun c => c.phase) = some .cross)
      ∧ (.switchWait ∈ parked.due ∧ parked.shift.array.context.map (fun c => c.switchWait) = some 1000
        ∧ (parked.record 5).drives 3 = false ∧ parked.settings.travelLimit = 1000
        ∧ (after .switchWaitTimeout parked).shift.array.context.map (fun c => c.switchSet) = some [1])
      ∧ ([0, 1, 2].find? fun j => (stuck.net j).state != .settled ((stuck.record 5).wanted j)
          && !(stuck.net j).state.isMoving && (stuck.record 5).drives j) = some 2 := by decide +kernel

theorem witness_Tower_limits_reached :
    let s : State :=
      { rest with
        due := [.travel 11, .silence 0]
        nets := rest.nets.set 11 { state := .moving 1 0, commanded := none, travelTimer := 1000, lastTravel := 0 }
        link := { rest.link with towers := rest.link.towers.set 0 { rest.tower 0 with silenceTimer := 20 } } }
    (s.net 11).state.isMoving = true ∧ s.settings.travelLimit ≤ (s.net 11).travelTimer
      ∧ (s.tower 0).silenceRunning = true ∧ s.settings.silenceTime ≤ (s.tower 0).silenceTimer
      ∧ (after (.travelLimitReached 12) s).net 11
        = { state := .jammed, commanded := none, travelTimer := 1000, lastTravel := 1000 }
      ∧ (after (.silenceTimeReached 1) s).tower 0
        = { rest.tower 0 with silenceTimer := 20, silenceRunning := false, present := false,
                              causes := { Causes.none with silent := true } } := by decide +kernel

/-- At rest; a cause held and a further one; STEADY with a driven and an undriven tower; a drop to zero; a transition
that drives the tower, and one that does not. -/
theorem witness_Cause_added :
    (rest.atRest = true ∧ (rest.tower 0).causes.any = false)
      ∧ (((lost 0 rest).tower 0).causes.has .silent = true ∧ ((lost 0 rest).tower 0).causes.has .upset = false)
      ∧ (steadyNight.shift.array = .steady 5 ∧ (steadyNight.record 5).drives 0 = true
        ∧ (steadyNight.record 5).drives 3 = false)
      ∧ (dropToZero .abort).target = none
      ∧ (∃ s, s = switching [1, 3] (fun _ => .moving 1 0) ∧ (s.tower 1).causes.any = false ∧ (s.record 5).drives 1 = true
        ∧ (s.record 5).drives 3 = false ∧ (s.record 5).drives 11 = false) := by
  refine ⟨by decide +kernel, by decide +kernel, by decide +kernel, by decide +kernel, _, rfl, ?_⟩
  decide +kernel

/-- One network record in each state, with a travel time at and above TRAVEL_WARN. -/
def netStates : List NetState := [.settled 2, .moving 3 2, .unknown, .jammed, .drifting]

theorem witness_Network_report_rules :
    (∀ x ∈ netStates, ((rest.setNet 4 { state := x, commanded := none, travelTimer := 250, lastTravel := 0 }).net 4).state = x)
      ∧ rest.settings.travelWarn = 250 ∧ (rest.settings.travelWarn < 251)
      ∧ ((0 : Pos) ≠ 2 ∧ (2 : Pos) ≠ 3) := by decide +kernel

/-- R39's rows: no target, the target reached, a held move that starts, and one refused of a tower out of service in the
switch set, driven by the target and not; and a tower that drifts in a drop to zero and in an ordinary one. -/
theorem witness_Network_report_rules_settles :
    let held := fun (q : Option Pos) (s : State) => s.setNet 1 { s.net 1 with state := .settled 0, commanded := q }
    let s := shiftingWith { context .switch 0 none with switchSet := [1, 3] } false
    (((held none s).net 1).commanded = none ∧ ((held (some 0) s).net 1).commanded = some 0)
      ∧ (((held (some 1) s).net 1).commanded = some 1 ∧ (s.tower 1).lockout = false ∧ (s.tower 1).causes.any = false
        ∧ (held (some 1) s).live 1 = ⟨0, 0⟩
        ∧ ((settleReported 1 0 (held (some 1) s)).net 1).state = .moving 1 0)
      ∧ (((lost 1 s).tower 1).causes.any = true
        ∧ (moveRefused 1 (lost 1 s)).shift.array = .safe
        ∧ (s.record 5).drives 1 = true ∧ (s.record 5).drives 3 = false
        ∧ (moveRefused 3 (lost 3 s)).shift.array.context.map (fun c => c.switchSet) = some [1]
        ∧ moveRefused 2 s = s)
      ∧ ((enterDrifting 1 (shiftingWith (dropToZero .abort) true)).shift.array.context.map (fun c => c.startA.get 1)
          = some ⟨0, 0⟩
        ∧ (enterDrifting 1 s).shift.array = s.shift.array ∧ ((enterDrifting 1 s).net 1).state = .drifting)
      ∧ endSwitchIfDone steadyNight = steadyNight := by decide +kernel

theorem witness_Move_request_answers :
    (((lost 2 rest).outOfService 2 = true ∧ rest.settings.arraySize = 3)
      ∧ (rest.outOfService 2 = false ∧ (rest.net 2).state = .settled 0 ∧ rest.live 2 = ⟨0, 0⟩))
      ∧ (steadyNight.outOfService 2 = false ∧ (steadyNight.net 2).state = .settled 3 ∧ steadyNight.live 2 ≠ ⟨0, 0⟩)
      ∧ ((switching [] fun _ => .moving 3 0).net 2).state = .moving 3 0
      ∧ ((switching [] fun _ => .drifting).net 2).state = .drifting := by decide +kernel

/-- A slot report of a confirmed position, and the frame that holds it for tower 2 alone. -/
def quiet : SlotReport := { network := .settled 0, paFault := false, phasor := none }

theorem witness_Tower_return_frame_taken :
    rest.due = [] ∧ decodeTowerReturn [225, 0] = none
      ∧ decodeTowerReturn (encodeTowerReturn fun k => if k = 1 then some quiet else none)
        = some (allTowers.map fun k => (k, if k = 1 then some quiet else none))
      ∧ rest.settings.arraySize = 3 ∧ (rest.net 2).state = .settled 0 := by decide +kernel

/-- The window of the night pattern with three towers complete but for one report of tower 3. -/
def nearlyFull : State :=
  let w := fullWindow goodReports
  steadyNight.setWindow (some { w with timer := 3, acc := w.acc.set 2 { count := 3, sum := ⟨0, 21213⟩ } })

/-- A phasor that is counted, one that is ignored, and the one that completes the window; a PA fault in a slot. -/
theorem witness_Tower_return_frame_taken_phasors :
    steadyNight.monitor.window.map (fun w => (w.tested 2, w.reports, (w.acc.get 2).count)) = some (true, 4, 0)
      ∧ (phasorReport 2 (some ⟨1, -2⟩) steadyNight).monitor.window.map (fun w => w.acc.get 2)
        = some { count := 1, sum := ⟨1, -2⟩ }
      ∧ steadyNight.monitor.window.map (fun w => w.tested 3) = some false
      ∧ phasorReport 3 (some ⟨1, -2⟩) steadyNight = steadyNight
      ∧ (steadyNight.net 2).state = .settled 3
      ∧ ((phasorReport 2 (some ⟨0, 7071⟩) nearlyFull).monitor.records.get 2).outcome = .pass
      ∧ (((returnSlot 2 (some { quiet with paFault := true }) rest).tower 2).causes.paFault = true) := by decide +kernel

/-- A walk that finds a pattern at its first link, one that ends at a pattern without a link, and one of eight links. -/
theorem witness_Fallback_resolution :
    let ring : State := rest.setRecord 0 (.ready { dayHeader with fallback := some 0, cap := 65535 } dayEntries)
    rest.shift.fallbackFlag = false ∧ rest.NetworkLaw ∧ resolve rest 5 = (some 0, 1) ∧ resolve rest 0 = (none, 1)
      ∧ resolve ring 5 = (none, 8) := by decide +kernel

theorem witness_Failure_handling :
    rest.shift.fallbackFlag = false ∧ (rest.setFlag true).shift.fallbackFlag = true ∧ resolve rest 0 = (none, 1)
      ∧ resolve rest 5 = (some 0, 1) ∧ rest.NetworkLaw ∧ rest.allZero = true ∧ steadyNight.allZero = false := by
  decide +kernel

/-- The night pattern begins a window, the day pattern none; under mute there is none, and with no duty. -/
theorem witness_Window_begins :
    ((steadyNight.record 5).header = some nightHeader ∧ nightHeader.reference = some 0
        ∧ (∃ e ∈ (steadyNight.record 5).entries, e.tolerance ≠ 0))
      ∧ (∀ e ∈ (steadyNight.record 0).entries, e.tolerance = 0)
      ∧ (restartWindow steadyNight).monitor.window = freshWindow steadyNight 5
      ∧ ((setSteadyDuty 0 steadyNight).monitor.window = none ∧ (setVerifyDuty 5 steadyNight).monitor.duty = .verify 5)
      ∧ (restartWindow rest).monitor.window = none := by decide +kernel

theorem witness_Averaging_rule :
    (-32768 * ((64 : Nat) : Int) ≤ -2097152 ∧ roundTiesUp (-2097152) 64 = -32768 ∧ roundTiesUp 2097088 64 = 32767)
      ∧ (fullWindow badReports).reports ≤ ((fullWindow badReports).acc.get 2).count
      ∧ steadyNight.monitor.window.map (fun w => ((w.acc.get 2).count, w.reports)) = some (0, 4)
      ∧ (fullWindow badReports).tested 2 = true
      ∧ (freshWindow steadyNight 5).isSome = true := by decide +kernel

theorem witness_Tolerance_rule :
    (InWeight (-32767) ∧ InSigned16 (-32768) ∧ (⟨0, 11585⟩ : Cpx) ≠ ⟨0, 0⟩)
      ∧ (fullWindow badReports).complete 0 = true ∧ (fullWindow badReports).average 0 ≠ ⟨0, 0⟩
      ∧ (fullWindow badReports).complete 2 = true
      ∧ (fullWindow badReports).judgeTested { tower := 2, expected := ⟨0, 11585⟩, tolerance := 12 } = (.fail, 16)
      ∧ (fullWindow badReports).judgeTested { tower := 2, expected := ⟨0, 11585⟩, tolerance := 16 } = (.pass, 16)
      ∧ (fullWindow fun _ => ⟨-32768, 32767⟩).judgeTested { tower := 2, expected := ⟨1, 0⟩, tolerance := 255 }
        = (.fail, 255) := by decide +kernel

/-- R92's cases: a short reference, one that averages (0, 0), a short tower with a good reference, and a tower outside. -/
theorem witness_Tolerance_rule_reference :
    let short := fun k : Tower =>
      { fullWindow goodReports with acc := (fullWindow goodReports).acc.set k { count := 3, sum := ⟨0, 0⟩ } }
    ((short 0).judge 0 = (.silent, 255) ∧ (short 0).judge 1 = (.refSilent, 255))
      ∧ ((fullWindow fun _ => ⟨0, 0⟩).judge 0 = (.pass, 0) ∧ (fullWindow fun _ => ⟨0, 0⟩).judge 2 = (.refSilent, 255))
      ∧ ((short 2).judge 2 = (.silent, 255) ∧ (short 2).judge 1 = (.pass, 6) ∧ (short 2).average 2 = ⟨0, 0⟩)
      ∧ (fullWindow goodReports).judge 3 = (.untested, 0)
      ∧ ((fullWindow goodReports).tests.find? fun e => e.tower == 2).isSome = true := by decide +kernel

/-- The window that passes, the one that puts tower 3 out, and the same with the option of the live pattern off. -/
theorem witness_Steady_window_judged :
    let s := windowDue (.steady 5) steadyNight (fullWindow badReports)
    (.windowLimit ∈ s.due ∧ s.monitor.window = some (fullWindow badReports)
        ∧ (fullWindow badReports).limit ≤ (fullWindow badReports).timer ∧ s.monitor.duty = .steady 5
        ∧ (s.record 5).header = some nightHeader ∧ nightHeader.monitorFallback = true)
      ∧ outEvents s (fullWindow badReports) = [2] ∧ outEvents s (fullWindow goodReports) = []
      ∧ (after .windowLimitReached s).shift.array.context.map (fun c => c.target) = some (some 0)
      ∧ (after .windowLimitReached (windowDue (.steady 5) steadyNight (fullWindow goodReports))).shift.array = .steady 5 := by
  decide +kernel

/-- PASS, FAIL below VERIFY_TRIES, and FAIL at it. -/
theorem witness_Verify_window_answered :
    let s := verifying 0 (fullWindow badReports)
    let c := { context .verify 0 none with verifyUsed := 0 }
    (.windowLimit ∈ s.due ∧ s.monitor.window = some (fullWindow badReports) ∧ s.monitor.duty = .verify 5
        ∧ s.shift.array = .shifting c ∧ c.phase = .verify ∧ c.target = some 5 ∧ (s.record 5).tested = true
        ∧ s.settings.verifyTries = 2)
      ∧ verifyAnswer (fullWindow goodReports) = none ∧ verifyAnswer (fullWindow badReports) = some (2, .fail, 16)
      ∧ (after .windowLimitReached (verifying 0 (fullWindow goodReports))).shift.array = .steady 5
      ∧ (after .windowLimitReached (verifying 1 (fullWindow badReports))).shift.array.context.map (fun c => c.cause)
        = some .fallback := by decide +kernel

theorem witness_Sample_frame_taken :
    rest.due = [] ∧ (rest.port .A).assembly = .idle ∧ (InSigned16 (-32768) ∧ InSigned16 32767)
      ∧ rest.selector.owner = .A ∧ (rest.port .B).barred = false := by decide +kernel

theorem witness_Source_frames_taken :
    (rest.due = [] ∧ (rest.port .B).assembly = .idle ∧ (rest.port .B).slot = none)
      ∧ (((assembling .B 1 rest).port .B).assembly = .assembling 8 7 3 1 [5, 1, 0]
        ∧ ((assembling .B 1 rest).port .B).slot = none)
      ∧ decodeSourceFrame [] = none ∧ decodeSourceFrame [3, 0, 4] = none ∧ [(1 : Byte), 2, 3].length = 3
      ∧ [(1 : Byte), 2, 3, 4, 5, 6].length = 6 ∧ 1 + 1 ≠ 3 := by decide +kernel

/-- Requests turned away at the frame: unknown codes, wrong counts, a setting that is none, and each at a FULL slot. -/
theorem witness_Source_frames_taken_refusals :
    let first := fun (n : Nat) (code : Byte) (s : State) =>
      after (.requestFrame .B (encodeSourceFrame (.requestFirst n code 9 [0, 0, 0]))) s
    let next := fun s : State => after (.requestFrame .B (encodeSourceFrame (.requestNext [0, 0, 0, 0, 0, 0]))) s
    (∀ code ∈ [(0 : Byte), 29, 255, 8, 14], replyOf .B (first 1 code rest) = some (refuse .badRequest))
      ∧ (replyOf .B (first 1 1 rest) = some (refuse .badValue) ∧ replyOf .B (first 1 28 rest) = some (refuse .badValue))
      ∧ ((first 1 29 (slotFull .B 0 rest)).portB.overruns = 1 ∧ (first 7 1 (slotFull .B 0 rest)).portB.overruns = 1)
      ∧ ((after (.idleFrame .B (encodeSourceFrame .idle)) (assembling .B 1 (slotFull .B 0 rest))).portB.overruns = 1)
      ∧ (let s := setAssembly .B (.assembling 14 9 3 2 [0, 0, 0]) rest
        replyOf .B (next s) = some (refuse .badRequest) ∧ (next (slotFull .B 0 s)).portB.overruns = 1) := by decide +kernel

theorem witness_Holdover_and_owner_loss :
    let s : State := { rest with due := [.holdover .A, .ownerLoss], portA := { rest.portA with age := 50, present := true } }
    (.holdover .A ∈ s.due ∧ .ownerLoss ∈ s.due ∧ s.selector.condition = .live ∧ s.settings.holdover ≤ (s.port .A).age)
      ∧ (after .ownerLoss s).selector.condition = .lost
      ∧ (after .ownerLoss { s with portB := { s.portB with present := true } }).selector.owner = .B := by decide +kernel

/-- Midnight of Saturday, with an entry for Sunday at 0 and one for Saturday alone. -/
theorem witness_Second_advance_fires :
    let s : State :=
      { rest with
        due := [.second], timebase := { rest.timebase with clock := .running, second := 86399, weekday := 6, subsecond := 999 }
        schedule := { entries := [{ time := 0, days := 1, pattern := 5 }], hold := false } }
    (.second ∈ s.due ∧ s.timebase.clock = .running ∧ 999 ≤ s.timebase.subsecond)
      ∧ (after .secondAdvance s).shifting = true
      ∧ (after .secondAdvance { s with schedule := { s.schedule with entries := [{ time := 0, days := 64, pattern := 5 }] } }).shifting
        = false
      ∧ (((after .secondAdvance { s with schedule := { s.schedule with hold := true } }).noticeSource 10).pending
        = some (.scheduleSkipped 0 .held)) := by decide +kernel

theorem witness_Contact_change_acts :
    let s := fun a : Action =>
      { rest with
        due := [.contact 3]
        lines := rest.lines.set 3 { sense := .activeHigh, action := a, active := false, count := 11, input := true, pin := true } }
    (∀ a ∈ [Action.none, .shiftOnActive 5, .shiftPair 5 0, .mute],
      .contact 3 ∈ (s a).due ∧ ((s a).line 3).sampled ≠ ((s a).line 3).active
        ∧ (s a).settings.debounce < ((s a).line 3).count)
      ∧ (after (.contactDebouncedChange 4) (s (.shiftOnActive 5))).shifting = true
      ∧ (after (.contactDebouncedChange 4) (s .mute)).mute = true := by decide +kernel

/-- The requests of the other statements: a state that admits them at both ports. -/
theorem witness_Setup_plain_settings : rest.admits .A ∧ steadyNight.admits .B := by decide +kernel

theorem witness_Setup_settings_with_effects :
    rest.admits .A ∧ rest.atRest = true ∧ (after (.stationSetupArraySize .A 1 12) rest).settings.arraySize = 12
      ∧ steadyNight.admits .B ∧ (after (.stationSetupFrameRate .B 1 8000) steadyNight).settings.frameRate = 8000 := by
  decide +kernel

theorem witness_Station_query :
    rest.admits .B ∧ ((1 : Byte).toNat = (0 : Fin 14).val + 1 ∧ (14 : Byte).toNat = (13 : Fin 14).val + 1)
      ∧ (14 < (15 : Byte).toNat ∧ (15 : Byte) ≠ 255) ∧ (14 < (254 : Byte).toNat ∧ (254 : Byte) ≠ 255)
      ∧ replyOf .B (after (.stationQuery .B 1 1) rest) = some (replyOk [0, 3]) := by decide +kernel

/-- A part with no window, a tower in one and a tower outside it. -/
theorem witness_Reply_value_bytes :
    rest.monitor.window = none
      ∧ steadyNight.monitor.window.map (fun w => (w.tested 2, w.tested 3)) = some (true, false)
      ∧ membershipBytes steadyNight 2 = [1, 0] ∧ membershipBytes steadyNight 3 = [0, 255] := by decide +kernel

theorem witness_Reading_requests :
    steadyNight.admits .A
      ∧ replyOf .A (after (.patternRead .A 1 5 3) steadyNight)
        = some (replyOk [3, 0, 0, 45, 65, 3, 0, 0, 45, 65, 12, 0, 0, 0, 0, 0, 0, 45, 65])
      ∧ replyOf .A (after (.patternRead .A 1 5 4) steadyNight) = some (refuse .notFound)
      ∧ replyOf .A (after (.towerStatus .A 1 0) steadyNight) = some (refuse .badValue)
      ∧ replyOf .A (after (.towerStatus .A 1 13) steadyNight) = some (refuse .badValue)
      ∧ replyOf .A (after (.scheduleRead .A 1 1) steadyNight) = some (refuse .notFound) := by decide +kernel

theorem witness_Counter_clear_and_unit_reset : steadyNight.admits .A ∧ (shiftingWith (dropToZero .safe) true).admits .B := by
  decide +kernel

theorem witness_Pattern_open_and_erase :
    rest.admits .A ∧ steadyNight.admits .A ∧ (8 ≤ (8 : Byte).toNat ∧ (7 : Byte).toNat = (7 : Slot).val)
      ∧ rest.record 7 = .empty ∧ rest.record 2 = .opened dayHeader dayEntries ∧ rest.inUse 5 = false
      ∧ steadyNight.inUse 5 = true ∧ rest.record 5 = .ready nightHeader nightEntries := by decide +kernel

theorem witness_Pattern_edits_bounds :
    8 ≤ (8 : Byte).toNat ∧ 3 < (4 : Byte).toNat ∧ 4000 < (4001 : Half).toNat ∧ 2048 < (2049 : Half).toNat
      ∧ (7 < (8 : Byte).toNat ∧ (8 : Byte) ≠ 255) ∧ 1 < (2 : Byte).toNat ∧ rest.settings.arraySize < (4 : Byte).toNat
      ∧ ((32767 : Half) ≠ 32768 ∧ (32769 : Half) ≠ 32768) := by decide +kernel

theorem witness_Pattern_edits :
    (rest.admits .A ∧ rest.record 2 = .opened dayHeader dayEntries ∧ rest.EntriesLaw)
      ∧ (rest.settings.arraySize = 3 ∧ (2 : Tower).val < 3 ∧ (some (5 : Slot) ≠ some 2)
        ∧ (1 ≤ (4000 : Half).toNat ∧ (4000 : Half).toNat ≤ 4000 ∧ (2048 : Half).toNat ≤ 2048))
      ∧ (rest.record 7 = .empty ∧ (rest.record 5).isReady = true)
      ∧ replyOf .A (after (.towerEntry .A 1 2 3 32767 32769 3 0 0 255) rest) = some (replyOk [3, 0])
      ∧ replyOf .A (after (.towerEntryRemove .A 1 2 2) rest) = some (replyOk [1]) := by decide +kernel

/-- The record closes, and each of the five checks stops one like it. -/
theorem witness_Pattern_close_checks :
    let close := fun (h : Header) (es : List Entry) =>
      replyOf .A (after (.patternClose .A 1 3) (rest.setRecord 3 (.opened h es)))
    rest.admits .A ∧ 8 ≤ (8 : Byte).toNat
      ∧ close nightHeader nightEntries = some (replyOk (u40 536865409))
      ∧ close nightHeader [] = some (checkFailed .noEntries [])
      ∧ close { nightHeader with reference := none } nightEntries = some (checkFailed .noReference [])
      ∧ close nightHeader (nightEntries.map fun e => { e with expected := ⟨0, 0⟩ }) = some (checkFailed .zeroExpected [])
      ∧ close { nightHeader with cap := 49153 } nightEntries = some (checkFailed .capAboveCeiling [])
      ∧ close { nightHeader with cap := 8191 } nightEntries = some (checkFailed .capExceeded (u40 536865409)) := by
  decide +kernel

theorem witness_Weight_trim :
    (steadyNight.admits .A ∧ steadyNight.EntriesLaw ∧ steadyNight.record 5 = .ready nightHeader nightEntries
        ∧ steadyNight.record 0 = .ready dayHeader dayEntries)
      ∧ (8 ≤ (8 : Byte).toNat ∧ (2 : Byte).toNat = (2 : Slot).val ∧ (steadyNight.record 2).isReady = false ∧ steadyNight.settings.arraySize ≤ (3 : Tower).val)
      ∧ ((2 : Tower).val < steadyNight.settings.arraySize ∧ (∀ e ∈ dayEntries, e.tower ≠ 2)
        ∧ entry 0 ⟨16384, 0⟩ 1 ⟨16384, 0⟩ 0 ∈ nightEntries)
      ∧ (rest.record 5).isReady = true ∧ 12 < (13 : Byte).toNat := by decide +kernel

/-- An order that merges, one that finds the queue full, one that waits, and one that is examined at once; the three
ways in which a transition begins. -/
theorem witness_Order_rules :
    let order := fun p : Slot => ({ target := some p, cause := .manual, origin := .port .A } : Order)
    let start : Start := { source := some 5, prior := .steady, target := 0, cause := .manual, origin := .port .A }
    let waiting := (shiftingWith (context .cross 1 (some 3)) true).setQueue [order 0]
    (waiting.shifting = true ∧ offerOrder (order 0) waiting = waiting
        ∧ (offerOrder (order 5) waiting).shift.queue = [order 0, order 5]
        ∧ (offerOrder (order 5) (waiting.setQueue [order 0, order 5, order 0, order 0])).shift.queue.length = 4)
      ∧ ((rest.setQueue [order 0, order 5]).shifting = false ∧ rest.shift.queue = [])
      ∧ ((steadyNight.record 0).header = some dayHeader
        ∧ (beginTransition start steadyNight).shift.array.context.map (fun c => (c.phase, c.switchSet)) = some (.drop, [0, 1, 2])
        ∧ (beginTransition start rest).shift.array.context.map (fun c => c.phase) = some .cross
        ∧ (beginTransition { start with target := 5 } rest).shift.array.context.map (fun c => c.phase) = some .switch)
      ∧ (let mixed := { rest with nets := tab fun k =>
          { rest.net k with state := if k = 0 then .unknown else if k = 1 then .drifting else .moving 0 3 } }
        (beginTransition { start with target := 5 } mixed).shift.array.context.map (fun c => (c.phase, c.switchSet))
            = some (.switch, [0, 1, 2])
          ∧ ((beginTransition { start with target := 5 } mixed).net 2) = { mixed.net 2 with commanded := some 3 }) := by
  decide +kernel

theorem witness_Shift_and_cancel :
    rest.admits .A ∧ 8 ≤ (8 : Byte).toNat
      ∧ replyOf .A (after (.shift .A 1 5) rest) = some { code := .accepted, reason := none, values := [0, 0] } := by
  decide +kernel

/-- Outside SHIFTING; in a safe drop; with no source and no weight, and with some; with a source that is usable, and
with one that is not. -/
theorem witness_Abort_rules :
    let none' := { context .cross 1 (some 3) with source := none }
    let live := fun c => (shiftingWith c true).setLive nightWeights
    (rest.admits .A ∧ rest.shifting = false)
      ∧ ((shiftingWith (dropToZero .safe) true).admits .A
        ∧ (shiftingWith (dropToZero .safe) true).shift.array = .shifting (dropToZero .safe))
      ∧ ((shiftingWith none' true).allZero = true ∧ (live none').allZero = false ∧ none'.cause ≠ .safe
        ∧ (after (.abort .A 1) (shiftingWith none' true)).shift.array = .noPattern)
      ∧ ((shiftingWith (context .cross 1 (some 3)) true).usable 0 = true
        ∧ (lost 1 (shiftingWith (context .cross 1 (some 3)) true)).usable 0 = false) := by decide +kernel

theorem witness_Tower_lockout_and_restore :
    (rest.admits .A ∧ rest.settings.arraySize < (4 : Byte).toNat ∧ 1 < (2 : Byte).toNat)
      ∧ ((2 : Tower).val < rest.settings.arraySize ∧ (3 : Byte).toNat = (2 : Tower).val + 1)
      ∧ replyOf .A (after (.towerLockout .A 1 3 1) rest) = some (replyOk [0, 1])
      ∧ replyOf .A (after (.towerLockout .A 1 3 1) steadyNight) = some (refuse .inUse)
      ∧ replyOf .A (after (.towerRestore .A 1 3) (lost 2 rest)) = some (replyOk [2]) := by decide +kernel

/-- A table of as many entries as asked for, one at each second. -/
def scheduled (n : Nat) : State :=
  { rest with
    schedule := { entries := (List.range n).map fun k => { time := k, days := 127, pattern := 5 }, hold := false } }

theorem witness_Time_and_schedule_requests :
    (rest.admits .A ∧ rest.TimeLaw ∧ (scheduled 24).admits .A ∧ (scheduled 24).TimeLaw
        ∧ (scheduled 24).schedule.entries.length = 24)
      ∧ (86399 < (86400 : Triple).toNat ∧ 128 ≤ (128 : Byte).toNat ∧ 8 ≤ (8 : Byte).toNat)
      ∧ ((86399 : Triple).toNat ≤ 86399 ∧ (127 : Byte) ≠ 0 ∧ (127 : Byte).toNat < 128 ∧ (7 : Byte).toNat = (7 : Slot).val)
      ∧ replyOf .A (after (.scheduleAdd .A 1 86399 127 7) rest) = some (replyOk [1, 1])
      ∧ replyOf .A (after (.scheduleAdd .A 1 23 127 7) (scheduled 24)) = some (refuse .duplicate)
      ∧ replyOf .A (after (.scheduleAdd .A 1 86399 127 7) (scheduled 24)) = some (refuse .tableFull)
      ∧ replyOf .A (after (.timeSet .A 1 86399 6) rest) = some (replyOk [0, 0, 0, 0, 0]) := by decide +kernel

theorem witness_Contact_setup :
    rest.admits .A ∧ 4 < (5 : Byte).toNat ∧ 1 < (2 : Byte).toNat ∧ 3 < (4 : Byte).toNat ∧ 7 < (8 : Byte).toNat
      ∧ (4 : Byte).toNat = (3 : Line).val + 1 ∧ (7 : Byte).toNat = (7 : Slot).val
      ∧ replyOf .A (after (.contactSetup .A 1 4 1 3 255 255) rest) = some (replyOk [0])
      ∧ (after (.contactSetup .A 1 4 1 3 255 255) rest).mute = true := by decide +kernel

theorem witness_Source_control :
    rest.admits .A ∧ 1 < (2 : Byte).toNat
      ∧ replyOf .A (after (.forceOwner .A 1 1) rest) = some (refuse .badState)
      ∧ (after (.forceOwner .A 1 1) { rest with portB := { rest.portB with present := true } }).selector.owner = .B
      ∧ (after (.clearBar .A 1 1)
          { rest with
            portB := { rest.portB with present := true, barred := true }
            selector := { rest.selector with condition := .lost } }).selector.owner = .B := by decide +kernel

/-- The states that the laws of every step are stated over: STEADY, and a transition in flight. -/
theorem witness_Power_invariant_kept :
    (steadyNight.PowerInvariant ∧ (shiftingWith (context .cross 1 (some 3)) true).PowerInvariant)
      ∧ step { steadyNight with pending := [.shift .A 1 0] } = .next (after (.shift .A 1 0) steadyNight)
      ∧ (after (.shift .A 1 0) steadyNight).shifting = true := by
  refine ⟨⟨⟨?_, ?_, ?_, ?_, ?_, ?_⟩, ?_, ?_, ?_, ?_, ?_, ?_⟩, rfl, ?_⟩ <;> decide +kernel

theorem witness_Power_law_follows :
    steadyNight.PowerInvariant ∧ steadyNight.shift.array.livePattern = some 5 ∧ steadyNight.livePower = 536865409 :=
  ⟨witness_Power_invariant_kept.1.1, by decide +kernel, by decide +kernel⟩

theorem witness_Zero_hold_and_network_laws_kept :
    (steadyNight.ZeroHoldLaw ∧ steadyNight.NetworkLaw)
      ∧ ((lost 2 rest).ZeroHoldLaw ∧ (lost 2 rest).NetworkLaw ∧ (lost 2 rest).zeroHold 2 = true)
      ∧ step { rest with pending := [.shift .A 1 5] } = .next (after (.shift .A 1 5) rest) := by
  refine ⟨⟨?_, ?_⟩, ⟨?_, ?_, ?_⟩, rfl⟩ <;> decide +kernel

/-- A queue of three orders that takes a fourth. -/
def queued : State :=
  let order := fun p : Slot => ({ target := some p, cause := .manual, origin := .port .A } : Order)
  (shiftingWith (context .cross 1 (some 3)) true).setQueue [order 5, order 0, order 5]

theorem witness_Queue_law_kept :
    queued.QueueLaw ∧ step { queued with pending := [.shift .A 1 0] } = .next (after (.shift .A 1 0) queued)
      ∧ (after (.shift .A 1 0) queued).shift.queue.length = 4 := by
  refine ⟨?_, rfl, ?_⟩ <;> decide +kernel

/-- Counters and the buffer at the tops of their ranges, the Schedule Table full. -/
def topped : State := { scheduled 24 with buffer := filled .running 16 65535 65535 }

theorem witness_Counter_and_time_laws_kept :
    (topped.CounterLaw ∧ topped.TimeLaw) ∧ (topped.settings.Legal ∧ topped.StepTimerLaw)
      ∧ ((stepDue (dropToZero .safe)).StepTimerLaw ∧ (stepDue (dropToZero .safe)).shift.timer.counter = 0)
      ∧ step { topped with pending := [.scheduleClear .A 1] } = .next (after (.scheduleClear .A 1) topped) := by
  refine ⟨⟨?_, ?_⟩, ⟨?_, ?_⟩, ⟨?_, ?_⟩, rfl⟩ <;> decide +kernel

end Sys2Proof.Tests
end

section
/-! PROOFS. The drive computation: rounding, products and clamp (chapter 2; R3, R30, R31). -/

namespace Sys2Proof.Machine

/-! ### The clamp (R3, R31) -/

theorem clampWeight_eq_max_min (n : Int) : clampWeight n = max (-32767) (min 32767 n) := by
  unfold clampWeight clampInt Config.weightTop
  split_ifs <;> omega

theorem Entry.effective_eq_max_min (e : Entry) : e.effective =
    ⟨max (-32767) (min 32767 (e.loaded.re + e.trim.re)), max (-32767) (min 32767 (e.loaded.im + e.trim.im))⟩ := by
  simp only [Entry.effective, clampWeight_eq_max_min]

/-! ### The rounded division (R30)

The rule treats both signs alike, so each fact is proved for a natural number and carried over by `roundDrive_neg`. -/

theorem roundDrive_natCast (m : Nat) : roundDrive m = ((2 * m + 16384) / 32768 : Nat) := by
  cases m with
  | zero => rfl
  | succ k => rw [roundDrive, Int.natAbs_natCast, Int.sign_eq_one_of_pos (Int.natCast_succ_pos k), one_mul]

@[simp] theorem roundDrive_neg (n : Int) : roundDrive (-n) = -roundDrive n := by
  simp only [roundDrive, Int.sign_neg, Int.natAbs_neg, neg_mul]

theorem roundDrive_neg_error (n : Int) :
    (16384 * roundDrive (-n) - -n).natAbs = (16384 * roundDrive n - n).natAbs := by
  rw [roundDrive_neg, ← Int.natAbs_neg]
  congr 1
  ring

theorem roundDrive_nearest (n : Int) : 2 * (16384 * roundDrive n - n).natAbs ≤ 16384 := by
  have nearest (m : Nat) : 2 * (16384 * roundDrive m - m).natAbs ≤ 16384 := by
    rw [roundDrive_natCast]
    omega
  obtain ⟨m, rfl | rfl⟩ := n.eq_nat_or_neg
  · exact nearest m
  · rw [roundDrive_neg_error]
    exact nearest m

theorem roundDrive_tie_away_from_zero (n : Int) (tie : 2 * (16384 * roundDrive n - n).natAbs = 16384) :
    n.natAbs < 16384 * (roundDrive n).natAbs := by
  have away (m : Nat) (tie : 2 * (16384 * roundDrive m - m).natAbs = 16384) :
      (m : Int).natAbs < 16384 * (roundDrive m).natAbs := by
    rw [roundDrive_natCast] at tie ⊢
    omega
  obtain ⟨m, rfl | rfl⟩ := n.eq_nat_or_neg
  · exact away m tie
  · rw [roundDrive_neg_error] at tie
    rw [roundDrive_neg, Int.natAbs_neg, Int.natAbs_neg]
    exact away m tie

/-! ### The products (R30) -/

theorem abs_sample_mul_weight_le {x w : Int} (hx : InSigned16 x) (hw : InWeight w) : |x * w| ≤ 1073709056 := by
  have hx : |x| ≤ 32768 := abs_le.mpr ⟨hx.1, by omega⟩
  have hw : |w| ≤ 32767 := abs_le.mpr hw
  calc |x * w| = |x| * |w| := abs_mul x w
    _ ≤ 32768 * 32767 := mul_le_mul hx hw (abs_nonneg w) (by norm_num)

theorem driveProduct_bounds (x w : Cpx) (hxr : InSigned16 x.re) (hxi : InSigned16 x.im) (hwr : InWeight w.re)
    (hwi : InWeight w.im) :
    (-2147418112 ≤ (driveProduct x w).re ∧ (driveProduct x w).re ≤ 2147418112)
      ∧ -2147418112 ≤ (driveProduct x w).im ∧ (driveProduct x w).im ≤ 2147418112 := by
  have rr := abs_le.mp (abs_sample_mul_weight_le hxr hwr)
  have ii := abs_le.mp (abs_sample_mul_weight_le hxi hwi)
  have ri := abs_le.mp (abs_sample_mul_weight_le hxr hwi)
  have ir := abs_le.mp (abs_sample_mul_weight_le hxi hwr)
  simp only [driveProduct]
  omega

theorem driveProduct_neg (x w : Cpx) :
    driveProduct x ⟨-w.re, -w.im⟩ = ⟨-(driveProduct x w).re, -(driveProduct x w).im⟩ := by
  simp only [driveProduct, Cpx.mk.injEq]
  constructor <;> ring

theorem driveRounded_neg (x w : Cpx) :
    driveRounded x ⟨-w.re, -w.im⟩ = ⟨-(driveRounded x w).re, -(driveRounded x w).im⟩ := by
  simp only [driveRounded, driveProduct_neg, roundDrive_neg]

/-- Settles O11: the rounding is read off on natural numbers and carried to the negative ones by its symmetry; the
products are bounded factor by factor. -/
theorem drive_value_rule : Obligations.Drive_value_rule :=
  ⟨fun _ _ => ⟨rfl, rfl, rfl⟩, driveProduct_bounds, clampWeight_eq_max_min, Entry.effective_eq_max_min,
    roundDrive_nearest, roundDrive_tie_away_from_zero, roundDrive_neg, driveRounded_neg, by decide⟩

end Sys2Proof.Machine
end

section
/-! PROOFS. The averaged phasor and the judging of a window (chapter 5; R91 to R93). -/

namespace Sys2Proof.Machine

/-! ### Division by W, ties toward positive (R91) -/

/-- The rounded quotient reaches `k` exactly where the quotient reaches `k - 1/2`: a tie goes up. -/
theorem le_roundTiesUp_iff {w : Nat} (hw : 0 < w) (n k : Int) : k ≤ roundTiesUp n w ↔ 2 * (k * w) ≤ 2 * n + w := by
  have hk : k * (2 * w) = 2 * (k * w) := by ring
  rw [roundTiesUp, Int.fdiv_eq_ediv_of_nonneg _ (by omega), Int.le_ediv_iff_mul_le (by omega), hk]

theorem roundTiesUp_nearest (n : Int) (w : Nat) (hw : 0 < w) :
    -(w : Int) < 2 * (w * roundTiesUp n w - n) ∧ 2 * (w * roundTiesUp n w - n) ≤ w := by
  have reached := (le_roundTiesUp_iff hw n (roundTiesUp n w)).mp le_rfl
  have next := mt (le_roundTiesUp_iff hw n (roundTiesUp n w + 1)).mpr (by omega)
  rw [add_one_mul] at next
  rw [mul_comm (w : Int)]
  omega

theorem roundTiesUp_inSigned16 (n : Int) (w : Nat) (hw : 0 < w) (low : -32768 * (w : Int) ≤ n)
    (high : n ≤ 32767 * (w : Int)) : InSigned16 (roundTiesUp n w) := by
  have bottom := (le_roundTiesUp_iff hw n (-32768)).mpr (by omega)
  have top := mt (le_roundTiesUp_iff hw n 32768).mp (by omega)
  exact ⟨bottom, by omega⟩

theorem roundTiesUp_one (n : Int) : roundTiesUp n 1 = n :=
  eq_of_forall_le_iff fun k => by
    rw [le_roundTiesUp_iff one_pos]
    omega

/-! ### The averaged phasor of a tower (R91) -/

theorem Window.complete_iff (w : Window) (k : Tower) : w.complete k = true ↔ w.reports ≤ (w.acc.get k).count :=
  decide_eq_true_iff

theorem Window.short_iff (w : Window) (k : Tower) : w.complete k = false ↔ (w.acc.get k).count < w.reports :=
  decide_eq_false_iff_not.trans not_le

theorem Window.average_of_complete {w : Window} {k : Tower} (h : w.complete k = true) : w.average k =
    ⟨roundTiesUp (w.acc.get k).sum.re w.reports, roundTiesUp (w.acc.get k).sum.im w.reports⟩ := if_pos h

theorem Window.average_of_short {w : Window} {k : Tower} (h : w.complete k = false) : w.average k = ⟨0, 0⟩ :=
  if_neg (Bool.eq_false_iff.mp h)

/-- What a completed window writes into the record of a tower of its tested set (R94 to R96). -/
theorem recordAfter_of_tested (s : State) (w : Window) (steady : Bool) {k : Tower} (h : w.tested k = true) :
    recordAfter s w steady k =
      { average := w.average k, deviation := (w.judge k).2, outcome := (w.judge k).1,
        failCount := countAfter (s.monitor.records.get k).failCount (w.judge k).1,
        out := if (w.judge k).1 = .pass then false
          else (s.monitor.records.get k).out || (steady && goesOut s w k),
        windows := ((s.monitor.records.get k).windows + 1) % 65536 } := if_pos h

/-- A window begins with its sums at 0. -/
theorem freshWindow_acc {s : State} {p : Slot} {w : Window} (h : freshWindow s p = some w) (k : Tower) :
    w.acc.get k = { count := 0, sum := ⟨0, 0⟩ } := by
  obtain ⟨_, _, _, _, sums⟩ := freshWindow_fields s h
  exact sums k

/-- Settles O30: the rounded quotient is placed by the integers that it reaches; a tower has an average exactly where it
is complete. -/
theorem averaging_rule : Obligations.Averaging_rule := by
  refine ⟨roundTiesUp_nearest, roundTiesUp_inSigned16, rfl, rfl, rfl, roundTiesUp_one, ?complete, ?short, ?written,
    ?fresh⟩
  case complete => exact fun w k h => Window.average_of_complete ((w.complete_iff k).mpr h)
  case short => exact fun w k h => Window.average_of_short ((w.short_iff k).mpr h)
  case written => exact fun s w steady k h => by rw [recordAfter_of_tested s w steady h]
  case fresh => exact fun s p w k h => freshWindow_acc h k

/-! ### The expected measure and the power of a product (R93) -/

theorem expectedMeasure_eq_driveProduct (x r : Cpx) : expectedMeasure x r = driveProduct r x := by
  simp only [expectedMeasure, driveProduct, Cpx.mk.injEq]
  constructor <;> ring

theorem Cpx.power_cast (z : Cpx) : (Cpx.power z : Int) = z.re * z.re + z.im * z.im := by
  simp only [Cpx.power, Nat.cast_add, Int.natAbs_mul_self]

theorem Cpx.power_eq_zero_iff (z : Cpx) : Cpx.power z = 0 ↔ z = ⟨0, 0⟩ := by
  obtain ⟨a, b⟩ := z
  simp only [Cpx.power, Nat.add_eq_zero_iff, mul_self_eq_zero, Int.natAbs_eq_zero, Cpx.mk.injEq]

theorem power_expectedMeasure (x r : Cpx) : Cpx.power (expectedMeasure x r) = Cpx.power x * Cpx.power r := by
  zify
  simp only [Cpx.power_cast, expectedMeasure]
  ring

/-- Each part of E lies within 33 signed bits: it is a drive product with its factors exchanged. -/
theorem expectedMeasure_bounds (x r : Cpx) (hxr : InWeight x.re) (hxi : InWeight x.im) (hrr : InSigned16 r.re)
    (hri : InSigned16 r.im) :
    (-4294967296 ≤ (expectedMeasure x r).re ∧ (expectedMeasure x r).re < 4294967296)
      ∧ -4294967296 ≤ (expectedMeasure x r).im ∧ (expectedMeasure x r).im < 4294967296 := by
  have bounds := driveProduct_bounds r x hrr hri hxr hxi
  rw [expectedMeasure_eq_driveProduct]
  omega

theorem expectedMeasure_ne_zero (x r : Cpx) (hx : x ≠ ⟨0, 0⟩) (hr : r ≠ ⟨0, 0⟩) : expectedMeasure x r ≠ ⟨0, 0⟩ := by
  rw [Ne, ← Cpx.power_eq_zero_iff] at hx hr ⊢
  rw [power_expectedMeasure]
  exact mul_ne_zero hx hr

/-! ### The tolerance test and the deviation (R93) -/

theorem withinTolerance_iff (d e : Cpx) (t : Nat) : withinTolerance d e t = true ↔
    65536 * (d.re * d.re + d.im * d.im) ≤ (t : Int) * t * (e.re * e.re + e.im * e.im) := by
  rw [withinTolerance, decide_eq_true_iff, ← Cpx.power_cast, ← Cpx.power_cast]
  norm_cast

/-- A test that admits a tolerance admits every greater one. -/
theorem withinTolerance_mono {d e : Cpx} {t u : Nat} (h : t ≤ u) (ht : withinTolerance d e t = true) :
    withinTolerance d e u = true := by
  rw [withinTolerance, decide_eq_true_iff] at ht ⊢
  exact ht.trans (Nat.mul_le_mul_right _ (Nat.mul_le_mul h h))

theorem withinTolerance_of_difference_zero {d : Cpx} (h : d = ⟨0, 0⟩) (e : Cpx) (t : Nat) :
    withinTolerance d e t = true := by
  simp [withinTolerance, (Cpx.power_eq_zero_iff d).mpr h]

/-- The deviation is the least tolerance that the test admits, or 255 where it admits none up to 255. -/
theorem deviationOf_cases (d e : Cpx) :
    (withinTolerance d e (deviationOf d e) = true ∧ deviationOf d e ≤ 255
        ∧ ∀ k < deviationOf d e, ¬withinTolerance d e k = true)
      ∨ (deviationOf d e = 255 ∧ ∀ k ≤ 255, ¬withinTolerance d e k = true) := by
  unfold deviationOf
  cases found : (List.range 256).find? fun k => withinTolerance d e k with
  | some k =>
    obtain ⟨admitted, inRange, least⟩ := List.find?_range_eq_some.mp found
    exact .inl ⟨admitted, Nat.le_of_lt_succ (List.mem_range.mp inRange), by simpa using least⟩
  | none =>
    have none_admitted := List.find?_range_eq_none.mp found
    exact .inr ⟨rfl, fun k hk => by simpa using none_admitted k (Nat.lt_succ_of_le hk)⟩

theorem deviationOf_le (d e : Cpx) : deviationOf d e ≤ 255 := by
  rcases deviationOf_cases d e with ⟨_, le, _⟩ | ⟨eq, _⟩
  · exact le
  · exact eq.le

theorem not_withinTolerance_of_lt_deviationOf {d e : Cpx} {k : Nat} (h : k < deviationOf d e) :
    ¬withinTolerance d e k = true := by
  rcases deviationOf_cases d e with ⟨_, _, least⟩ | ⟨eq, none_admitted⟩
  · exact least k h
  · exact none_admitted k (by omega)

/-- Where the test admits some tolerance up to 255, it admits those from the deviation on. -/
theorem withinTolerance_iff_deviationOf_le {d e : Cpx} (h : ∃ k ≤ 255, withinTolerance d e k = true) (t : Nat) :
    withinTolerance d e t = true ↔ deviationOf d e ≤ t := by
  obtain ⟨k, hk, admitted⟩ := h
  rcases deviationOf_cases d e with ⟨at_deviation, _, _⟩ | ⟨_, none_admitted⟩
  · exact ⟨fun ht => not_lt.mp fun lt => not_withinTolerance_of_lt_deviationOf lt ht,
      fun le => withinTolerance_mono le at_deviation⟩
  · exact absurd admitted (none_admitted k hk)

theorem deviationOf_of_none_admitted {d e : Cpx} (h : ∀ k ≤ 255, ¬withinTolerance d e k = true) :
    deviationOf d e = 255 := by
  rcases deviationOf_cases d e with ⟨at_deviation, le, _⟩ | ⟨eq, _⟩
  · exact absurd at_deviation (h _ le)
  · exact eq

theorem deviationOf_of_difference_zero {d : Cpx} (h : d = ⟨0, 0⟩) (e : Cpx) : deviationOf d e = 0 := by
  have admits_zero := withinTolerance_of_difference_zero h e 0
  exact Nat.le_zero.mp ((withinTolerance_iff_deviationOf_le ⟨0, by decide, admits_zero⟩ 0).mp admits_zero)

/-! ### The judging of a tower (R92, R93) -/

theorem Window.referenceLost_iff (w : Window) : w.referenceLost = true ↔
    w.complete w.reference = false ∨ w.average w.reference = ⟨0, 0⟩ := by
  simp [Window.referenceLost, Cpx.zero]

theorem Window.not_referenceLost {w : Window} (hcomplete : w.complete w.reference = true)
    (hnonzero : w.average w.reference ≠ ⟨0, 0⟩) : ¬w.referenceLost = true := by
  simp [Window.referenceLost_iff, hcomplete, hnonzero]

theorem Window.judgeTested_of_referenceLost {w : Window} (h : w.referenceLost = true) (e : TestEntry) :
    w.judgeTested e = (.refSilent, 255) := if_pos h

theorem Window.judgeTested_of_short {w : Window} {e : TestEntry} (href : ¬w.referenceLost = true)
    (h : w.complete e.tower = false) : w.judgeTested e = (.silent, 255) :=
  (if_neg href).trans (if_neg (Bool.eq_false_iff.mp h))

theorem Window.judgeTested_of_complete {w : Window} {e : TestEntry} (href : ¬w.referenceLost = true)
    (h : w.complete e.tower = true) :
    w.judgeTested e =
      let expected := expectedMeasure e.expected (w.average w.reference)
      let d := difference (w.average e.tower) expected
      (if withinTolerance d expected e.tolerance then .pass else .fail, deviationOf d expected) :=
  (if_neg href).trans (if_pos h)

theorem Window.judge_reference_of_complete {w : Window} (h : w.complete w.reference = true) :
    w.judge w.reference = (.pass, 0) := (if_pos rfl).trans (if_pos h)

theorem Window.judge_reference_of_short {w : Window} (h : w.complete w.reference = false) :
    w.judge w.reference = (.silent, 255) := (if_pos rfl).trans (if_neg (Bool.eq_false_iff.mp h))

theorem Window.judge_of_entry {w : Window} {k : Tower} {e : TestEntry} (hk : k ≠ w.reference)
    (h : (w.tests.find? fun e => e.tower == k) = some e) : w.judge k = w.judgeTested e := by
  rw [Window.judge, if_neg hk, h]

theorem Window.judge_of_no_entry {w : Window} {k : Tower} (hk : k ≠ w.reference) (h : ∀ e ∈ w.tests, e.tower ≠ k) :
    w.judge k = (.untested, 0) := by
  have none_found : (w.tests.find? fun e => e.tower == k) = none := List.find?_eq_none.mpr (by simpa using h)
  rw [Window.judge, if_neg hk, none_found]

theorem Window.tested_eq_false {w : Window} {k : Tower} (hk : k ≠ w.reference) (h : ∀ e ∈ w.tests, e.tower ≠ k) :
    w.tested k = false := by
  simpa [Window.tested, hk.symm] using h

theorem verdict_eq_pass_iff (b : Bool) : (if b then Verdict.pass else .fail) = .pass ↔ b = true := by
  cases b <;> decide

/-- The parts of the tolerance test of a complete tower against a reference that gives a measure (R93). -/
theorem Window.judgeTested_rule (w : Window) (e : TestEntry) (hcomplete : w.complete w.reference = true)
    (hnonzero : w.average w.reference ≠ ⟨0, 0⟩) (htower : w.complete e.tower = true) :
    let expected := expectedMeasure e.expected (w.average w.reference)
    let d := difference (w.average e.tower) expected
    let within := fun k : Nat => withinTolerance d expected k = true
    let outcome := (w.judgeTested e).1
    let deviation := (w.judgeTested e).2
    (outcome = .pass ↔ within e.tolerance)
    ∧ (outcome = .pass ∨ outcome = .fail)
    ∧ deviation ≤ 255
    ∧ (∀ k : Nat, k < deviation → ¬within k)
    ∧ ((∃ k : Nat, k ≤ 255 ∧ within k) → within deviation ∧ (outcome = .pass ↔ deviation ≤ e.tolerance))
    ∧ ((∀ k : Nat, k ≤ 255 → ¬within k) → deviation = 255 ∧ (e.tolerance ≤ 255 → outcome = .fail))
    ∧ (d = ⟨0, 0⟩ → deviation = 0 ∧ outcome = .pass) := by
  rw [Window.judgeTested_of_complete (Window.not_referenceLost hcomplete hnonzero) htower]
  intro expected d within outcome deviation
  have passes : outcome = .pass ↔ within e.tolerance := verdict_eq_pass_iff _
  have pass_or_fail : outcome = .pass ∨ outcome = .fail := ite_eq_or_eq _ _ _
  refine ⟨passes, pass_or_fail, deviationOf_le d expected, fun k => not_withinTolerance_of_lt_deviationOf, ?admitted,
    ?saturated, ?no_difference⟩
  case admitted =>
    intro some_admitted
    have from_deviation := withinTolerance_iff_deviationOf_le some_admitted
    exact ⟨(from_deviation deviation).mpr le_rfl, passes.trans (from_deviation e.tolerance)⟩
  case saturated =>
    intro none_admitted
    exact ⟨deviationOf_of_none_admitted none_admitted,
      fun top => pass_or_fail.resolve_left (mt passes.mp (none_admitted _ top))⟩
  case no_difference =>
    exact fun h => ⟨deviationOf_of_difference_zero h expected,
      passes.mpr (withinTolerance_of_difference_zero h expected e.tolerance)⟩

/-- A tested tower other than the reference, by the state of the reference and its own (R92). -/
theorem Window.judge_entry_rule (w : Window) (k : Tower) (e : TestEntry) (hk : k ≠ w.reference)
    (h : (w.tests.find? fun e => e.tower == k) = some e) :
    (w.complete w.reference = false ∨ w.average w.reference = ⟨0, 0⟩ → w.judge k = (.refSilent, 255))
      ∧ (w.complete w.reference = true → w.average w.reference ≠ ⟨0, 0⟩ →
        (w.complete k = false → w.judge k = (.silent, 255)) ∧ (w.complete k = true → w.judge k = w.judgeTested e)) := by
  have tower_eq : e.tower = k := by simpa using List.find?_some h
  rw [Window.judge_of_entry hk h]
  refine ⟨fun lost => judgeTested_of_referenceLost (w.referenceLost_iff.mpr lost) e, fun complete nonzero => ?_⟩
  exact ⟨fun short => judgeTested_of_short (not_referenceLost complete nonzero) (tower_eq ▸ short), fun _ => rfl⟩

/-- Settles O31: E is a drive product and its power the product of two powers; the deviation is the least tolerance that
the test admits, and the test is monotone in the tolerance; the cases of a tower are those of R92. -/
theorem tolerance_rule : Obligations.Tolerance_rule := by
  refine ⟨fun _ _ => rfl, expectedMeasure_bounds, fun _ _ => rfl, expectedMeasure_ne_zero, ?tested, fun w k =>
    ⟨?reference, ?entry, ?outside, ?short, ?written⟩⟩
  case tested =>
    intro w e hcomplete hnonzero htower
    simpa only [withinTolerance_iff] using w.judgeTested_rule e hcomplete hnonzero htower
  case reference =>
    rintro rfl
    rw [← Window.complete_iff, ← Window.short_iff]
    exact ⟨Window.judge_reference_of_complete, Window.judge_reference_of_short⟩
  case entry =>
    intro e hk h
    simpa only [Window.complete_iff, Window.short_iff] using w.judge_entry_rule k e hk h
  case outside => exact fun hk h => ⟨Window.judge_of_no_entry hk h, Window.tested_eq_false hk h⟩
  case short => exact fun h => Window.average_of_short ((w.short_iff k).mpr h)
  case written =>
    intro s steady h
    rw [recordAfter_of_tested s w steady h]
    exact ⟨rfl, rfl, rfl⟩

end Sys2Proof.Machine
end

section
/-! PROOFS. Fallback resolution and the last failure record that it writes (chapter 6; R106, R108). -/

namespace Sys2Proof.Machine

/-! ### The walk of fallback links (R106) -/

/-- Resolution takes a pattern that is not the failed one and is READY and usable (R106). -/
def State.accepts (s : State) (failed f : Slot) : Prop :=
  f ≠ failed ∧ (s.record f).isReady = true ∧ s.usable f = true

/-- The link with this number in the walk is examined: the walk gets to a record with a header (R106). -/
def State.examines (s : State) (failed : Slot) (i : Nat) : Bool :=
  ((fallbackWalk s failed i).bind fun q => (s.record q).header).isSome

/-- No pattern that the links after the first `k` lead to, up to the link before link `n`, is accepted. -/
def NoneAccepted (s : State) (failed : Slot) (k n : Nat) : Prop :=
  ∀ m g, k < m → m < n → fallbackWalk s failed m = some g → ¬s.accepts failed g

variable {s : State} {failed : Slot}

theorem State.isReady_of_usable {f : Slot} (h : s.usable f = true) : (s.record f).isReady = true := by
  unfold State.usable at h
  split at h
  · next ready => rw [ready]; rfl
  · cases h

/-- A usable pattern is READY, so the model's test is the rule's (R18, R106). -/
theorem State.accepts_iff {f : Slot} : s.accepts failed f ↔ f ≠ failed ∧ s.usable f = true :=
  and_congr_right fun _ => and_iff_right_of_imp isReady_of_usable

theorem fallbackLink_of_empty {q : Slot} (h : (s.record q).header = none) : fallbackLink s q = none := by
  rw [fallbackLink, h]; rfl

theorem fallbackLink_of_header {q : Slot} {h : Header} (hq : (s.record q).header = some h) :
    fallbackLink s q = h.fallback := by
  rw [fallbackLink, hq]; rfl

theorem fallbackWalk_succ {k : Nat} {q : Slot} (h : fallbackWalk s failed k = some q) :
    fallbackWalk s failed (k + 1) = fallbackLink s q := by
  rw [fallbackWalk, h]; rfl

/-- A walk that has ended stays ended. -/
theorem fallbackWalk_eq_none_of_le {k n : Nat} (h : fallbackWalk s failed k = none) (le : k ≤ n) :
    fallbackWalk s failed n = none := by
  induction n, le using Nat.le_induction with
  | base => exact h
  | succ m _ ih => rw [fallbackWalk, ih]; rfl

theorem State.examines_of_walk {k : Nat} {q : Slot} (h : fallbackWalk s failed k = some q) :
    s.examines failed k = (s.record q).header.isSome := by
  rw [examines, h]; rfl

theorem countP_examines_of_walk_end {k : Nat} (h : fallbackWalk s failed k = none) (fuel : Nat) :
    (List.range' k fuel).countP (s.examines failed) = 0 := by
  refine List.countP_eq_zero.mpr fun i hi => ?_
  rw [State.examines, fallbackWalk_eq_none_of_le h (List.mem_range'_1.mp hi).1]
  exact Bool.false_ne_true

theorem noneAccepted_next (k : Nat) : NoneAccepted s failed k (k + 1) := fun _ _ _ _ => by omega

theorem noneAccepted_of_walk_end {k : Nat} (h : fallbackWalk s failed (k + 1) = none) (n : Nat) :
    NoneAccepted s failed k n := fun m g above _ walk => by
  rw [fallbackWalk_eq_none_of_le h above] at walk
  cases walk

theorem NoneAccepted.of_rejected {k n : Nat} {f : Slot} (walk : fallbackWalk s failed (k + 1) = some f)
    (rejected : ¬s.accepts failed f) (rest : NoneAccepted s failed (k + 1) n) : NoneAccepted s failed k n := by
  intro m g above below hm
  obtain rfl | later := Nat.eq_or_lt_of_le (Nat.succ_le_of_lt above)
  · rwa [Option.some.inj (hm.symm.trans walk)]
  · exact rest m g later below hm

/-! ### What resolution answers (R106) -/

/-- The answer of a walk that has passed `k` links and may examine `fuel` more: the first accepted pattern with its link's
number, or none with the number of links examined. -/
def Answers (s : State) (failed : Slot) (fuel k : Nat) : Option Slot × Nat → Prop
  | (some f, n) =>
    (k + 1 ≤ n ∧ n ≤ k + fuel) ∧ fallbackWalk s failed n = some f ∧ s.accepts failed f
      ∧ NoneAccepted s failed k n
  | (none, n) =>
    NoneAccepted s failed k (k + fuel + 1) ∧ n = k + (List.range' k fuel).countP (s.examines failed)

theorem resolveFrom_of_empty {q : Slot} (h : (s.record q).header = none) (fuel k : Nat) :
    resolveFrom s failed (fuel + 1) k q = (none, k) := by
  simp only [resolveFrom, h]

theorem resolveFrom_of_last {q : Slot} {h : Header} (hq : (s.record q).header = some h) (last : h.fallback = none)
    (fuel k : Nat) : resolveFrom s failed (fuel + 1) k q = (none, k + 1) := by
  simp only [resolveFrom, hq, last]

theorem resolveFrom_of_accepted {q f : Slot} {h : Header} (hq : (s.record q).header = some h)
    (link : h.fallback = some f) (accepted : s.accepts failed f) (fuel k : Nat) :
    resolveFrom s failed (fuel + 1) k q = (some f, k + 1) := by
  simp only [resolveFrom, hq, link]
  exact if_pos (State.accepts_iff.mp accepted)

theorem resolveFrom_of_rejected {q f : Slot} {h : Header} (hq : (s.record q).header = some h)
    (link : h.fallback = some f) (rejected : ¬s.accepts failed f) (fuel k : Nat) :
    resolveFrom s failed (fuel + 1) k q = resolveFrom s failed fuel (k + 1) f := by
  simp only [resolveFrom, hq, link]
  exact if_neg (mt State.accepts_iff.mpr rejected)

/-- A first link that leads to no accepted pattern is counted, and the walk's answer is that of the walk after it. -/
theorem Answers.of_rejected {k fuel : Nat} {f : Slot} (examined : s.examines failed k = true)
    (walk : fallbackWalk s failed (k + 1) = some f) (rejected : ¬s.accepts failed f) {r : Option Slot × Nat}
    (rest : Answers s failed fuel (k + 1) r) : Answers s failed (fuel + 1) k r := by
  match r, rest with
  | (some _, n), ⟨bounds, found, accepted, before⟩ =>
    exact ⟨by omega, found, accepted, before.of_rejected walk rejected⟩
  | (none, n), ⟨all, count⟩ =>
    rw [Nat.add_right_comm k 1 fuel] at all
    refine ⟨all.of_rejected walk rejected, ?_⟩
    rw [count, List.range'_succ, List.countP_cons_of_pos examined]
    omega

theorem resolveFrom_answers (fuel k : Nat) (q : Slot) (here : fallbackWalk s failed k = some q) :
    Answers s failed fuel k (resolveFrom s failed fuel k q) := by
  induction fuel generalizing k q with
  | zero => exact ⟨noneAccepted_next k, rfl⟩
  | succ fuel ih =>
    have next := fallbackWalk_succ here
    have examined := State.examines_of_walk here
    cases hq : (s.record q).header with
    | none =>
      rw [fallbackLink_of_empty hq] at next
      rw [hq] at examined
      rw [resolveFrom_of_empty hq]
      refine ⟨noneAccepted_of_walk_end next _, ?_⟩
      rw [List.range'_succ, List.countP_cons_of_neg (by simp [examined]), countP_examines_of_walk_end next]
      rfl
    | some h =>
      rw [fallbackLink_of_header hq] at next
      rw [hq] at examined
      cases link : h.fallback with
      | none =>
        rw [link] at next
        rw [resolveFrom_of_last hq link]
        refine ⟨noneAccepted_of_walk_end next _, ?_⟩
        rw [List.range'_succ, List.countP_cons_of_pos examined, countP_examines_of_walk_end next]
      | some f =>
        rw [link] at next
        by_cases accepted : s.accepts failed f
        · rw [resolveFrom_of_accepted hq link accepted]
          exact ⟨by omega, next, accepted, noneAccepted_next k⟩
        · rw [resolveFrom_of_rejected hq link accepted]
          exact .of_rejected examined next accepted (ih (k + 1) f next)

/-- A first accepted pattern excludes that there is none, and there is one first only. -/
theorem Answers.unique {fuel k : Nat} {a b : Option Slot × Nat} (ha : Answers s failed fuel k a)
    (hb : Answers s failed fuel k b) : a = b := by
  match a, b, ha, hb with
  | (some f, m), (some g, n), ⟨hm, walk_f, accepts_f, before_m⟩, ⟨hn, walk_g, accepts_g, before_n⟩ =>
    obtain less | rfl | greater := lt_trichotomy m n
    · exact absurd accepts_f (before_n m f hm.1 less walk_f)
    · rw [walk_f.symm.trans walk_g]
    · exact absurd accepts_g (before_m n g hn.1 greater walk_g)
  | (some f, m), (none, _), ⟨hm, walk, accepted, _⟩, ⟨all, _⟩ =>
    exact absurd accepted (all m f hm.1 (Nat.lt_succ_of_le hm.2) walk)
  | (none, _), (some g, n), ⟨all, _⟩, ⟨hn, walk, accepted, _⟩ =>
    exact absurd accepted (all n g hn.1 (Nat.lt_succ_of_le hn.2) walk)
  | (none, _), (none, _), ⟨_, hm⟩, ⟨_, hn⟩ => rw [hm, hn]

theorem resolve_eq_iff (s : State) (failed : Slot) (r : Option Slot × Nat) :
    resolve s failed = r ↔ Answers s failed 8 0 r := by
  have answers : Answers s failed 8 0 (resolve s failed) := resolveFrom_answers 8 0 failed rfl
  exact ⟨fun h => h ▸ answers, answers.unique⟩

theorem resolve_eq_some_iff (s : State) (failed f : Slot) (n : Nat) : resolve s failed = (some f, n) ↔
    (1 ≤ n ∧ n ≤ 8) ∧ fallbackWalk s failed n = some f ∧ s.accepts failed f
      ∧ ∀ m g, 1 ≤ m → m < n → fallbackWalk s failed m = some g → ¬s.accepts failed g :=
  resolve_eq_iff s failed (some f, n)

theorem resolve_eq_none_iff (s : State) (failed : Slot) (n : Nat) : resolve s failed = (none, n) ↔
    (∀ m g, 1 ≤ m → m ≤ 8 → fallbackWalk s failed m = some g → ¬s.accepts failed g)
      ∧ n = ((List.range 8).filter (s.examines failed)).length := by
  rw [resolve_eq_iff, List.range_eq_range', ← List.countP_eq_length_filter]
  simp only [Answers, NoneAccepted, Nat.lt_succ_iff, Nat.succ_le_iff, zero_add]

/-! ### What keeps the last failure record (R108)

Only the handling of a failure writes the record; the safe drop and the start of a transition leave it as it is. -/

variable (s)

theorem discardOrders_lastFailure (os : List Order) :
    (os.foldl (fun s o => discardOrder o s) s).shift.lastFailure = s.shift.lastFailure := by
  induction os generalizing s with
  | nil => rfl
  | cons o os ih => exact ih _

theorem finishSafeDrop_lastFailure (c : Context) : (finishSafeDrop c s).shift.lastFailure = s.shift.lastFailure := by
  unfold finishSafeDrop
  split <;> rfl

theorem safeDrop_lastFailure (p : Slot) (r : Reason) (x : Prior) :
    (safeDrop p r x s).shift.lastFailure = s.shift.lastFailure := by
  have flushed : (flushQueue s).shift.lastFailure = s.shift.lastFailure := discardOrders_lastFailure s _
  unfold safeDrop
  dsimp only
  split
  · exact (finishSafeDrop_lastFailure _ _).trans flushed
  · exact flushed

theorem makeRoomAtHead_lastFailure : (makeRoomAtHead s).shift.lastFailure = s.shift.lastFailure := by
  unfold makeRoomAtHead
  split
  · split <;> rfl
  · rfl

theorem requestMove_shift (t : Tower) (q : Pos) : (requestMove t q s).1.shift = s.shift := by
  unfold requestMove
  split
  · rfl
  · split
    · split
      · rfl
      · split <;> rfl
    all_goals rfl

theorem zeroStart_lastFailure (t : Tower) : (zeroStart t s).shift.lastFailure = s.shift.lastFailure := by
  unfold zeroStart
  split <;> rfl

theorem leaveSwitchSet_lastFailure (t : Tower) : (leaveSwitchSet t s).shift.lastFailure = s.shift.lastFailure := by
  unfold leaveSwitchSet
  split
  · split <;> rfl
  · rfl

theorem endSwitchIfDone_lastFailure : (endSwitchIfDone s).shift.lastFailure = s.shift.lastFailure := by
  unfold endSwitchIfDone
  split
  · split
    · split <;> rfl
    · rfl
  · rfl

section
variable {fail : Reason → Option Tower → State → State}
  (hfail : ∀ r t x, (fail r t x).shift.lastFailure = x.shift.lastFailure)
include hfail

theorem sendMoves_lastFailure (p : Slot) (ts : List Tower) :
    (sendMoves fail p ts s).1.shift.lastFailure = s.shift.lastFailure := by
  induction ts generalizing s with
  | nil => rfl
  | cons t ts ih =>
    have kept := congrArg Shift.lastFailure (requestMove_shift s t ((s.record p).wanted t))
    unfold sendMoves
    split
    · next s' answer =>
      rw [answer] at kept
      split
      · exact (hfail _ _ _).trans ((zeroStart_lastFailure _ _).trans kept)
      · exact (ih _).trans ((leaveSwitchSet_lastFailure _ _).trans ((zeroStart_lastFailure _ _).trans kept))
    · next s' _ _ answer =>
      rw [answer] at kept
      exact (ih _).trans kept

theorem beginSwitchWith_lastFailure (c : Context) (p : Slot) :
    (beginSwitchWith fail c p s).shift.lastFailure = s.shift.lastFailure := by
  have kept := sendMoves_lastFailure (s.setArray (.shifting
    { c with phase := .switch, stepCount := 0, stepTotal := none, switchWait := 0 })) hfail p c.switchSet
  unfold beginSwitchWith
  dsimp only
  split
  · next s' moves =>
    rw [moves] at kept
    exact (endSwitchIfDone_lastFailure s').trans kept
  · next s' moves =>
    rwa [moves] at kept

theorem beginTransitionWith_lastFailure (st : Start) :
    (beginTransitionWith fail st s).shift.lastFailure = s.shift.lastFailure := by
  unfold beginTransitionWith
  dsimp only
  split
  · rfl
  · split
    · rfl
    · exact beginSwitchWith_lastFailure _ hfail _ _

end

/-- Under the network laws no transition fails as it begins, so what a failure there would do does not matter (R67). -/
theorem beginTransitionWith_fail_irrelevant (f g : Reason → Option Tower → State → State) (st : Start)
    (law : s.NetworkLaw) : beginTransitionWith f st s = beginTransitionWith g st s := by
  unfold beginTransitionWith beginSwitchWith
  dsimp only
  split
  · rfl
  · next still =>
    rw [sendMoves_fail_irrelevant f g]
    · exact law
    intro t member
    have zero : s.live t = Cpx.zero := by
      by_contra moving
      exact still (List.any_eq_true.mpr ⟨t, member, bne_iff_ne.mpr moving⟩)
    have chosen : t ∈ switchSetFor (clearDuty s) st.target := member
    simp only [switchSetFor, List.mem_filter, Bool.and_eq_true, Bool.not_eq_true'] at chosen
    obtain ⟨_, ⟨inside, service⟩, _⟩ := chosen
    exact ⟨inside, service, zero⟩

theorem startFallback_lastFailure (st : Start) (law : s.NetworkLaw) :
    (startFallback st s).shift.lastFailure = s.shift.lastFailure := by
  rw [startFallback, beginTransitionWith_fail_irrelevant s failFallback (fun _ _ x => x) st law]
  exact beginTransitionWith_lastFailure s (fun _ _ _ => rfl) st

theorem makeRoomAtHead_networkLaw (law : s.NetworkLaw) : (makeRoomAtHead s).NetworkLaw := by
  unfold makeRoomAtHead
  split
  · split <;> exact law
  · exact law

theorem not_second_failure {f : Failure} (cause : f.cause ≠ some .fallback) (flag : s.shift.fallbackFlag = false) :
    ¬(f.cause = some .fallback ∨ s.shift.fallbackFlag = true) :=
  not_or.mpr ⟨cause, Bool.eq_false_iff.mp flag⟩

theorem handleFailure_of_resolve_none {f : Failure} (cause : f.cause ≠ some .fallback)
    (flag : s.shift.fallbackFlag = false) {links : Nat} (answer : resolve s f.pattern = (none, links)) :
    handleFailure f s =
      safeDrop f.pattern .noFallback f.prior
        (s.setLastFailure (failureRecord f s.shift.fallbackFlag links none (some .noFallback))) := by
  unfold handleFailure handleFailureWith
  dsimp only
  rw [if_neg (not_second_failure s cause flag), answer]

theorem handleFailure_of_resolve_some {f : Failure} (cause : f.cause ≠ some .fallback)
    (flag : s.shift.fallbackFlag = false) {p : Slot} {links : Nat} (answer : resolve s f.pattern = (some p, links)) :
    handleFailure f s =
      raise (.fallbackStarted f.pattern p f.reason)
        (startFallback
          { source := f.source, prior := f.prior, target := p, cause := .fallback, origin := .pattern f.pattern }
          (makeRoomAtHead (s.setLastFailure (failureRecord f s.shift.fallbackFlag links (some p) none)))) := by
  unfold handleFailure handleFailureWith
  dsimp only
  rw [if_neg (not_second_failure s cause flag), answer]

/-- A first failure is recorded with the answer of its resolution (R106, R108). -/
theorem handleFailure_lastFailure (f : Failure) (cause : f.cause ≠ some .fallback)
    (flag : s.shift.fallbackFlag = false) (law : s.NetworkLaw) :
    (handleFailure f s).shift.lastFailure =
      failureRecord f s.shift.fallbackFlag (resolve s f.pattern).2 (resolve s f.pattern).1
        (if (resolve s f.pattern).1.isSome then none else some .noFallback) := by
  match answer : resolve s f.pattern with
  | (none, links) =>
    rw [handleFailure_of_resolve_none s cause flag answer]
    exact safeDrop_lastFailure _ _ _ _
  | (some p, links) =>
    rw [handleFailure_of_resolve_some s cause flag answer]
    have recorded : (s.setLastFailure (failureRecord f s.shift.fallbackFlag links (some p) none)).NetworkLaw := law
    exact (startFallback_lastFailure _ _ (makeRoomAtHead_networkLaw _ recorded)).trans (makeRoomAtHead_lastFailure _)

/-- Settles O27: the walk is followed link by link, its answer is the only one of its kind, and nothing after the
resolution writes the last failure record. -/
theorem fallback_resolution : Obligations.Fallback_resolution := by
  refine ⟨fun f s cause flag law => ?recorded, fun s p => ⟨resolve_eq_some_iff s p, resolve_eq_none_iff s p⟩⟩
  case recorded => rw [handleFailure_lastFailure s f cause flag law]; rfl

end Sys2Proof.Machine
end

section
/-! PROOFS. Station Query: the setting named, all fourteen, and the refusal (R166). -/

namespace Sys2Proof.Machine

theorem Settings.length_values (x : Settings) : x.values.length = 14 := rfl

section
variable (s : State) {setting : Byte}

theorem reqStationQuery_all : reqStationQuery 255 s = answered s (s.settings.values.map u16).flatten := rfl

theorem reqStationQuery_zero : reqStationQuery 0 s = refused .badValue s := rfl

/-- Any setting but 0 and 255 is looked up in the table by its number less one. -/
theorem reqStationQuery_lookup (zero : setting ≠ 0) (all : setting ≠ 255) :
    reqStationQuery setting s =
      (s.settings.values[setting.toNat - 1]?).elim (refused .badValue s) fun v => answered s (u16 v) := by
  rw [reqStationQuery, if_neg all, if_neg zero]
  cases s.settings.values[setting.toNat - 1]? <;> rfl

theorem reqStationQuery_named (i : Fin 14) (h : setting.toNat = i.val + 1) :
    reqStationQuery setting s = answered s (u16 (s.settings.values.getD i.val 0)) := by
  have zero : setting ≠ 0 := by rintro rfl; simp at h
  have all : setting ≠ 255 := by rintro rfl; have := i.isLt; simp at h; omega
  have inside : i.val < s.settings.values.length := i.isLt
  rw [reqStationQuery_lookup s zero all, h, Nat.add_sub_cancel, List.getD_eq_getElem _ _ inside,
    List.getElem?_eq_getElem inside]
  rfl

theorem reqStationQuery_above (above : 14 < setting.toNat) (all : setting ≠ 255) :
    reqStationQuery setting s = refused .badValue s := by
  have zero : setting ≠ 0 := by rintro rfl; simp at above
  have outside : s.settings.values.length ≤ setting.toNat - 1 := by rw [Settings.length_values]; omega
  rw [reqStationQuery_lookup s zero all, List.getElem?_eq_none outside]
  rfl

/-- Where the port takes the request, the instruction is the operation's state with the operation's reply in the slot
(R163). -/
theorem exec_stationQuery_of_admits {p : Port} (tag : Byte) (h : s.admits p) :
    exec (.stationQuery p tag setting) s =
      .next (placeReply p 2 tag (reqStationQuery setting s).2 (reqStationQuery setting s).1) :=
  congrArg Host.Outcome.next (requestArrives_of_admits s 2 tag (reqStationQuery setting) h)

end

/-- Settles O41: the three forms of the setting byte, each read off the operation. -/
theorem station_query : Obligations.Station_query := by
  intro s p tag setting admits
  rw [exec_stationQuery_of_admits s tag admits]
  refine ⟨fun i h => ?named, fun h => ?all, fun h => ?refused⟩
  case named => rw [reqStationQuery_named s i h]; rfl
  case all => rw [h, reqStationQuery_all]; rfl
  case refused =>
    obtain rfl | ⟨above, all⟩ := h
    · rw [reqStationQuery_zero]; rfl
    · rw [reqStationQuery_above s above all]; rfl

end Sys2Proof.Machine
end

section
/-! PROOFS. The step, the power-on values, and the events still due (R146, R147). -/

namespace Sys2Proof.Machine

/-! ### The step and the values at power-on -/

/-- Settles O1: a step is by definition the command at the front. -/
theorem step_runs_front_command : Obligations.Step_runs_front_command :=
  ⟨fun _ _ _ => rfl, fun s idle => by rw [step, idle]⟩

theorem powerOn_line (levels : BitVec 4) (l : Line) :
    (State.powerOn levels).line l = .initial (levels.getLsbD l.val) := by
  fin_cases l <;> rfl

theorem powerOn_noticeSource (levels : BitVec 4) (i : Fin 13) :
    (State.powerOn levels).noticeSource i = .initial (if i.val < 5 then .urgent else .routine) := by
  fin_cases i <;> rfl

/-- Settles O2: each block is read off the power-on state, its tables entry by entry. -/
theorem power_on_reset_state : Obligations.Power_on_reset_state := by
  intro s levels
  refine ⟨_, rfl, rfl, rfl, fun p => get_replicate _ p, fun k => ⟨get_replicate _ k, get_replicate _ k⟩,
    fun k => get_replicate _ k, rfl, rfl, rfl, fun k => get_replicate _ k, fun k => get_replicate _ k, rfl,
    fun p => ?ports, rfl, rfl, rfl, rfl, rfl, rfl, rfl, fun l => ?lines, fun i => powerOn_noticeSource levels i⟩
  case ports =>
    have port : ({ State.powerOn levels with pending := s.pending } : State).port p = .initial := by cases p <;> rfl
    rw [port]
    exact ⟨rfl, rfl, rfl, rfl, rfl, rfl, rfl, rfl⟩
  case lines =>
    have line : ({ State.powerOn levels with pending := s.pending } : State).line l = _ := powerOn_line levels l
    rw [line]
    exact ⟨rfl, rfl, rfl, rfl⟩

/-! ### The events of a tick that are still due -/

theorem towerOf_eq_some_iff {n : Nat} {k : Tower} : towerOf n = some k ↔ n = k.val + 1 := by
  unfold towerOf
  split
  · simp only [Option.some.injEq, Fin.ext_iff]; omega
  · simp only [reduceCtorEq, false_iff]; omega

theorem lineOf_eq_some_iff {n : Nat} {l : Line} : lineOf n = some l ↔ n = l.val + 1 := by
  unfold lineOf
  split
  · simp only [Option.some.injEq, Fin.ext_iff]; omega
  · simp only [reduceCtorEq, false_iff]; omega

theorem exec_travelLimitReached_of_not_due {s : State} {n : Nat}
    (h : ∀ k : Tower, n = k.val + 1 → TickEvent.travel k ∉ s.due) : exec (.travelLimitReached n) s = .next s := by
  simp only [exec, execTravelLimitReached]
  split
  · next k named => rw [takeDue_of_not_due s (h k (towerOf_eq_some_iff.mp named))]
  · rfl

theorem exec_silenceTimeReached_of_not_due {s : State} {n : Nat}
    (h : ∀ k : Tower, n = k.val + 1 → TickEvent.silence k ∉ s.due) : exec (.silenceTimeReached n) s = .next s := by
  simp only [exec, execSilenceTimeReached]
  split
  · next k named => rw [takeDue_of_not_due s (h k (towerOf_eq_some_iff.mp named))]
  · rfl

theorem exec_contactDebouncedChange_of_not_due {s : State} {n : Nat}
    (h : ∀ l : Line, n = l.val + 1 → TickEvent.contact l ∉ s.due) : exec (.contactDebouncedChange n) s = .next s := by
  simp only [exec, execContactDebouncedChange]
  split
  · next l named => rw [takeDue_of_not_due s (h l (lineOf_eq_some_iff.mp named))]
  · rfl

/-- A command that is no event of a tick settles what is due before it acts, so settling twice is settling once. -/
theorem exec_eq_exec_settle (c : Instr) (s : State) (event : isTickEvent c = false) (power : isPowerOn c = false) :
    exec c s = exec c (settle s) := by
  have once := settle_settle s
  cases c with
  | powerOnReset => cases power
  | stepTimerExpiry | switchWaitTimeout | travelLimitReached | silenceTimeReached | windowLimitReached
  | holdoverExpiry | ownerLoss | secondAdvance | contactDebouncedChange => cases event
  | millisecondTick levels => exact congrArg (fun x => Host.Outcome.next (tick levels.sampled levels.behind x)) once.symm
  | frameTimerExpiry => exact congrArg (fun x => Host.Outcome.next (frameExpiry x)) once.symm
  | sampleFrame p bytes | requestFrame p bytes | idleFrame p bytes | discardedSourceFrame p bytes =>
    exact congrArg (fun x => Host.Outcome.next (sourceFrame p bytes x)) once.symm
  | towerReturnFrame bytes => exact congrArg (fun x => Host.Outcome.next (towerReturn bytes x)) once.symm
  | _ => exact congrArg (fun x => Host.Outcome.next (requestArrives _ _ _ _ x)) once.symm

/-- Settles O4: a command settles first, and an event command looks for its event in the list. -/
theorem commands_and_due_events : Obligations.Commands_and_due_events := by
  refine ⟨⟨exec_eq_exec_settle, settle_due⟩, fun s => ?_⟩
  have absent {e : TickEvent} (h : e ∉ s.due) :
      (Host.Outcome.next (takeDue e s) : Host.Outcome State Fault Refusal) = .next s :=
    congrArg Host.Outcome.next (takeDue_of_not_due s h)
  exact ⟨absent, absent, fun _ => exec_travelLimitReached_of_not_due, fun _ => exec_silenceTimeReached_of_not_due, absent,
    fun _ => absent, absent, absent, fun _ => exec_contactDebouncedChange_of_not_due⟩

end Sys2Proof.Machine
end

section
/-! PROOFS. One tick of the reference clock: the counters and the events due (R146). -/

namespace Sys2Proof.Machine

/-! ### How each counter moves at a tick -/

theorem StepTimer.ticked_eq (t : StepTimer) :
    t.ticked = { counter := if t.running then t.counter - 1 else t.counter, running := t.running } := by
  unfold StepTimer.ticked; split <;> rfl

theorem ArrayState.ticked_of_switch {c : Context} (phase : c.phase = .switch) (top : c.switchWait ≤ 5000) :
    (ArrayState.shifting c).ticked = .shifting { c with switchWait := min (c.switchWait + 1) 5000 } := by
  have capped : (if c.switchWait < Config.switchWaitTop then c.switchWait + 1 else c.switchWait)
      = min (c.switchWait + 1) 5000 := by
    unfold Config.switchWaitTop; split <;> omega
  rw [ArrayState.ticked, if_pos phase, capped]

theorem ArrayState.ticked_of_not_switch {a : ArrayState} (h : ∀ c, a = .shifting c → c.phase ≠ .switch) : a.ticked = a := by
  cases a with
  | shifting c => exact if_neg (h c rfl)
  | _ => rfl

theorem NetRecord.ticked_eq (n : NetRecord) :
    n.ticked = { n with travelTimer := if n.state.isMoving then n.travelTimer + 1 else n.travelTimer } := by
  unfold NetRecord.ticked; split <;> rfl

theorem TowerEntry.ticked_eq (e : TowerEntry) :
    e.ticked = { e with silenceTimer := if e.silenceRunning then e.silenceTimer + 1 else e.silenceTimer } := by
  unfold TowerEntry.ticked; split <;> rfl

theorem bump_eq_min {n : Nat} (h : n ≤ 65535) : bump n = min (n + 1) 65535 := by
  unfold bump Config.counterTop; split <;> omega

theorem PortState.ticked_eq {x : PortState} (h : x.age ≤ 65535) : x.ticked = { x with age := min (x.age + 1) 65535 } := by
  rw [PortState.ticked, bump_eq_min h]

theorem Timebase.ticked_eq (b : Timebase) :
    b.ticked =
      { b with
        subsecond := if b.clock = .running ∧ b.subsecond < 999 then b.subsecond + 1 else b.subsecond } := by
  unfold Timebase.ticked; split <;> rfl

theorem ContactLine.ticked_eq (c : ContactLine) (level pin : Bool) :
    c.ticked level pin =
      { c with
        input := level, pin := pin
        count := if (if c.sense = .activeHigh then level else !level) = c.active then 0 else c.count + 1 } := by
  have sampled : c.sense.read level = if c.sense = .activeHigh then level else !level := by cases c.sense <;> rfl
  rw [← sampled]
  exact (apply_ite (fun n : Nat => ({ c with input := level, pin := pin, count := n } : ContactLine)) _ _ _).symm

theorem tick_port (levels pins : BitVec 4) (s : State) (p : Port) : (tick levels pins s).port p = (s.port p).ticked := by
  cases p <;> rfl

theorem exec_millisecondTick {s : State} (levels after : BitVec 4) (h : s.due = []) :
    exec (.millisecondTick ⟨levels, after⟩) s = .next (tick levels after s) :=
  congrArg (fun x => Host.Outcome.next (tick levels after x)) (settle_of_due_nil s h)

/-- Settles O5: the tick's state, read counter by counter. -/
theorem tick_advances_counters : Obligations.Tick_advances_counters := by
  intro s levels after due
  refine ⟨_, exec_millisecondTick levels after due, StepTimer.ticked_eq _, ?switch, ArrayState.ticked_of_not_switch, rfl, rfl,
    rfl, ?nets, ?towers, rfl, rfl, rfl, ?ports, Timebase.ticked_eq _, ?lines, rfl, rfl, rfl, rfl, rfl, rfl, rfl, rfl⟩
  case switch =>
    intro c shifting phase top
    exact (congrArg ArrayState.ticked shifting).trans (ArrayState.ticked_of_switch phase top)
  case nets => exact fun k => (get_tab _ k).trans (NetRecord.ticked_eq _)
  case towers => exact fun k => (get_tab _ k).trans (TowerEntry.ticked_eq _)
  case ports => exact fun p top => (tick_port levels after s p).trans (PortState.ticked_eq top)
  case lines => exact fun l => (get_tab _ l).trans (ContactLine.ticked_eq _ _ _)

/-! ### The events due after a tick -/

theorem mem_allTowers (k : Tower) : k ∈ allTowers := by revert k; decide

theorem mem_allLines (l : Line) : l ∈ allLines := by revert l; decide

theorem mem_allEvents (e : TickEvent) : e ∈ allEvents := by
  cases e with
  | travel k => simp [allEvents, mem_allTowers]
  | silence k => simp [allEvents, mem_allTowers]
  | contact l => simp [allEvents, mem_allLines]
  | holdover p => cases p <;> simp [allEvents]
  | _ => simp [allEvents]

/-- An event is due after a tick exactly where it is reached. -/
theorem mem_tick_due (levels pins : BitVec 4) (s : State) (e : TickEvent) :
    e ∈ (tick levels pins s).due ↔ eventReached s (tick levels pins s) e = true := by
  have same : eventReached s (tick levels pins s) e = eventReached s (advanceCounters levels pins s) e := by
    cases e with
    | holdover p => cases p <;> rfl
    | ownerLoss => simp only [eventReached]; cases s.selector.owner <;> rfl
    | _ => rfl
  rw [same]
  exact List.mem_filter.trans (and_iff_right (mem_allEvents e))

theorem eventReached_switchWait (s t : State) : eventReached s t .switchWait = true ↔
    ∃ c, t.shift.array = .shifting c ∧ c.phase = .switch ∧ t.settings.travelLimit ≤ c.switchWait := by
  simp only [eventReached]
  cases t.shift.array <;> simp

theorem eventReached_windowLimit (s t : State) : eventReached s t .windowLimit = true ↔
    ∃ w, t.monitor.window = some w ∧ w.limit ≤ w.timer := by
  simp only [eventReached]
  cases t.monitor.window <;> simp

/-- Settles O6: the due list filters R146's table by the limits. -/
theorem tick_makes_events_due : Obligations.Tick_makes_events_due := by
  intro s levels after due
  refine ⟨_, exec_millisecondTick levels after due, List.filter_sublist, ?_⟩
  simp only [mem_tick_due, eventReached_switchWait, eventReached_windowLimit]
  simp [eventReached]

end Sys2Proof.Machine
end

section
/-! PROOFS. Bytes, frames and their receipt (R176, R177, R181). -/

namespace Sys2Proof.Machine

/-! ### Reading bytes and fields (R176) -/

theorem byteAt_append_right (a b : List Byte) (k : Nat) : byteAt (a ++ b) (a.length + k) = byteAt b k := by
  simp [byteAt, List.getElem?_append_right]

theorem wordAt_append_right (a b : List Byte) (k : Nat) : wordAt (a ++ b) (a.length + k) = wordAt b k := by
  rw [wordAt, Nat.add_assoc, byteAt_append_right, byteAt_append_right, wordAt]

/-- The two bytes of a field spell its number. -/
theorem high_low_bytes {n : Nat} (h : n < 65536) :
    (BitVec.ofNat 8 (n / 256)).toNat * 256 + (BitVec.ofNat 8 n).toNat = n := by
  simp only [BitVec.toNat_ofNat]; omega

theorem wordAt_u16 {n : Nat} (h : n < 65536) : wordAt (u16 n) 0 = n := high_low_bytes h

/-- Two's complement of sixteen bits, read back (R176). -/
theorem signed16_emod {x : Int} (h : InSigned16 x) : signed16 (x % 65536).toNat = x := by
  unfold signed16; split <;> omega

theorem emod_toNat_lt (x : Int) : (x % 65536).toNat < 65536 := by omega

theorem signed_high_low_bytes {x : Int} (h : InSigned16 x) :
    signed16 ((BitVec.ofNat 8 ((x % 65536).toNat / 256)).toNat * 256 + (BitVec.ofNat 8 (x % 65536).toNat).toNat) = x := by
  rw [high_low_bytes (emod_toNat_lt x), signed16_emod h]

theorem pairAt_pair {z : Cpx} (re : InSigned16 z.re) (im : InSigned16 z.im) (a b : List Byte) :
    pairAt (a ++ pair z ++ b) a.length = z := by
  have first : signedAt (a ++ pair z ++ b) a.length = z.re := by
    rw [List.append_assoc, signedAt, ← Nat.add_zero a.length, wordAt_append_right]
    exact signed_high_low_bytes re
  have second : signedAt (a ++ pair z ++ b) (a.length + 2) = z.im := by
    rw [List.append_assoc, signedAt, wordAt_append_right]
    exact signed_high_low_bytes im
  rw [pairAt, first, second]

/-! ### The frame check (R176) -/

theorem byteSum_lt (bs : List Byte) : byteSum bs < 65536 := Nat.mod_lt _ (by decide)

theorem frameGood_sealFrame {n : Nat} {bs : List Byte} (h : bs.length = n) : frameGood (n + 2) (sealFrame bs) = true := by
  subst h
  have check : wordAt (sealFrame bs) bs.length = byteSum bs := by
    rw [sealFrame, ← Nat.add_zero bs.length, wordAt_append_right, wordAt_u16 (byteSum_lt bs)]
  simp [frameGood, check]
  simp [sealFrame, u16]

/-! ### Source frames (R177) -/

theorem decode_encode_sample {x : Cpx} (re : InSigned16 x.re) (im : InSigned16 x.im) (claim : Bool) :
    decodeSourceFrame (encodeSourceFrame (.sample x claim)) = some (.sample x claim) := by
  have good : frameGood 8 (encodeSourceFrame (.sample x claim)) = true := frameGood_sealFrame rfl
  have sample : pairAt (encodeSourceFrame (.sample x claim)) 2 = x := pairAt_pair re im ([1] ++ flag claim) _
  have kind : byteAt (encodeSourceFrame (.sample x claim)) 0 = 1 := rfl
  have second : byteAt (encodeSourceFrame (.sample x claim)) 1 = BitVec.ofNat 8 (if claim then 1 else 0) := rfl
  have claimed : (BitVec.ofNat 8 (if claim then 1 else 0)).getLsbD 0 = claim := by cases claim <;> decide
  rw [decodeSourceFrame, if_pos kind, if_pos good, sample, second, claimed]

theorem decode_encode_requestFirst {n : Nat} (small : n < 8) (code tag : Byte) {payload : List Byte}
    (length : payload.length = 3) :
    decodeSourceFrame (encodeSourceFrame (.requestFirst n code tag payload)) = some (.requestFirst n code tag payload) := by
  obtain ⟨a, b, c, rfl⟩ := List.length_eq_three.mp length
  have good : frameGood 10 (encodeSourceFrame (.requestFirst n code tag [a, b, c])) = true := frameGood_sealFrame rfl
  have first : (BitVec.ofNat 8 (128 + n)).getLsbD 7 = true ∧ (BitVec.ofNat 8 (128 + n)).toNat % 8 = n := by
    clear good; revert n; decide
  have kind : byteAt (encodeSourceFrame (.requestFirst n code tag [a, b, c])) 0 = 2 := rfl
  rw [decodeSourceFrame, kind, if_neg (by decide), if_pos rfl, if_pos good]
  exact (if_pos first.1).trans (congrArg (fun k => some (SourceFrame.requestFirst k code tag [a, b, c])) first.2)

theorem decode_encode_requestNext {payload : List Byte} (length : payload.length = 6) :
    decodeSourceFrame (encodeSourceFrame (.requestNext payload)) = some (.requestNext payload) := by
  have good : frameGood 10 (encodeSourceFrame (.requestNext payload)) = true :=
    frameGood_sealFrame (by simp [length])
  have body : ((encodeSourceFrame (.requestNext payload)).drop 2).take 6 = payload := by
    rw [← length]; exact List.take_left
  have kind : byteAt (encodeSourceFrame (.requestNext payload)) 0 = 2 := rfl
  have next : byteAt (encodeSourceFrame (.requestNext payload)) 1 = 0 := rfl
  rw [decodeSourceFrame, kind, if_neg (by decide), if_pos rfl, if_pos good, body, next, if_neg (by decide)]

theorem decode_encode_idle : decodeSourceFrame (encodeSourceFrame .idle) = some .idle := by decide

/-! ### Return slots and the Tower Return Frame (R181) -/

theorem returnSlotBytes_length (r : Option SlotReport) : (returnSlotBytes r).length = 5 := by
  cases r <;> rfl

/-- The first byte of a filled slot. -/
def slotFlags (net : NetReport) (fault phasor : Bool) : Byte :=
  BitVec.ofNat 8 (128 + (match net with
    | .travel => 64
    | .settled p => p.val * 16) + (if fault then 8 else 0) + (if phasor then 4 else 0))

theorem slotFlags_read (net : NetReport) (fault phasor : Bool) :
    (slotFlags net fault phasor).getLsbD 7 = true
      ∧ (if (slotFlags net fault phasor).getLsbD 6 then NetReport.travel
        else .settled ⟨(slotFlags net fault phasor).toNat / 16 % 4, Nat.mod_lt _ (by decide)⟩) = net
      ∧ (slotFlags net fault phasor).getLsbD 3 = fault ∧ (slotFlags net fault phasor).getLsbD 2 = phasor := by
  cases net with
  | travel => revert fault phasor; decide
  | settled p => revert p fault phasor; decide

theorem decode_returnSlotBytes {r : Option SlotReport} (fits : ∀ x ∈ r, reportFits x) :
    decodeReturnSlot (returnSlotBytes r) = r := by
  cases r with
  | none => rfl
  | some x =>
    obtain ⟨net, fault, phasor⟩ := x
    obtain ⟨filled, network, pa, valid⟩ := slotFlags_read net fault phasor.isSome
    have byte : byteAt (returnSlotBytes (some ⟨net, fault, phasor⟩)) 0 = slotFlags net fault phasor.isSome := rfl
    have value : (if phasor.isSome then some (pairAt (returnSlotBytes (some ⟨net, fault, phasor⟩)) 1) else none)
        = phasor := by
      cases phasor with
      | none => rfl
      | some z =>
        obtain ⟨re, im⟩ := fits _ rfl z rfl
        have read := pairAt_pair re im [slotFlags net fault true] []
        rw [List.append_nil] at read
        exact congrArg some read
    simp only [decodeReturnSlot, byte, filled, network, pa, valid, value, if_true]

/-- Chunk `i` of a list of chunks of one length. -/
theorem take_drop_flatten {α : Type} {w : Nat} {ls : List (List α)} (h : ∀ l ∈ ls, l.length = w) {i : Nat}
    (hi : i < ls.length) (rest : List α) : ((ls.flatten ++ rest).drop (w * i)).take w = ls[i] := by
  induction ls generalizing i with
  | nil => cases hi
  | cons l ls ih =>
    have head : l.length = w := h l (by simp)
    cases i with
    | zero => simp [← head]
    | succ i =>
      have tail := ih (fun x hx => h x (by simp [hx])) (Nat.lt_of_succ_lt_succ hi)
      rw [List.flatten_cons, List.append_assoc, Nat.mul_succ, Nat.add_comm, ← head, ← List.drop_drop, List.drop_left, head]
      exact tail

theorem returnSlots_flatten_length (slots : Tower → Option SlotReport) :
    ((allTowers.map fun t => returnSlotBytes (slots t)).flatten).length = 60 := by
  simp [returnSlotBytes_length, allTowers]

theorem returnSlot_in_frame (slots : Tower → Option SlotReport) (t : Tower) :
    ((encodeTowerReturn slots).drop (1 + 5 * t.val)).take 5 = returnSlotBytes (slots t) := by
  have lengths : ∀ l ∈ allTowers.map fun t => returnSlotBytes (slots t), l.length = 5 := by
    intro l hl
    obtain ⟨u, _, rfl⟩ := List.mem_map.mp hl
    exact returnSlotBytes_length _
  have inside : t.val < (allTowers.map fun t => returnSlotBytes (slots t)).length := t.isLt
  have chunk := take_drop_flatten lengths inside
    (u16 (byteSum ([225] ++ (allTowers.map fun t => returnSlotBytes (slots t)).flatten)))
  have entry : (allTowers.map fun t => returnSlotBytes (slots t))[t.val]'inside = returnSlotBytes (slots t) := by
    rw [List.getElem_map]
    fin_cases t <;> rfl
  rw [entry] at chunk
  rw [← List.drop_drop]
  exact chunk

theorem decode_encodeTowerReturn {slots : Tower → Option SlotReport} (fits : ∀ t, ∀ r ∈ slots t, reportFits r) :
    decodeTowerReturn (encodeTowerReturn slots) = some (allTowers.map fun t => (t, slots t)) := by
  have good : frameGood 63 (encodeTowerReturn slots) = true :=
    frameGood_sealFrame (by rw [List.length_append, returnSlots_flatten_length]; rfl)
  have kind : byteAt (encodeTowerReturn slots) 0 = 225 := rfl
  simp only [decodeTowerReturn, kind, good, returnSlot_in_frame, decode_returnSlotBytes (fits _), decide_true,
    Bool.and_self, if_true]

/-- Settles O10: the check is the sum, and each layout reads its fields back. -/
theorem frames_round_trip : Obligations.Frames_round_trip := by
  refine ⟨fun f fits => ?source, fun slots fits => decode_encodeTowerReturn fits⟩
  cases f with
  | sample x claim => exact decode_encode_sample fits.1 fits.2 claim
  | requestFirst n code tag payload => exact decode_encode_requestFirst fits.1 code tag fits.2
  | requestNext payload => exact decode_encode_requestNext fits
  | idle => exact decode_encode_idle

end Sys2Proof.Machine
end

section
/-! PROOFS. The reception of requests: a request command and its run of frames (R160 to R163, R178). -/

namespace Sys2Proof.Machine

/-! ### The payload bytes of each request (R178) -/

theorem half_high_low (v : Half) :
    (BitVec.ofNat 8 (v.toNat / 256)).toNat * 256 + (BitVec.ofNat 8 v.toNat).toNat = v.toNat := high_low_bytes v.isLt

/-- A two-byte operand as it is read from the bytes that it is sent in. -/
def halfRead (v : Half) : Half := BitVec.ofNat 16 (wordAt (u16 v.toNat) 0)

/-- A three-byte operand as it is read from the bytes that it is sent in. -/
def tripleRead (v : Triple) : Triple :=
  BitVec.ofNat 24 ((byteAt (u24 v.toNat) 0).toNat * 65536 + wordAt (u24 v.toNat) 1)

@[simp] theorem halfRead_eq (v : Half) : halfRead v = v := by
  rw [halfRead, wordAt_u16 v.isLt, BitVec.ofNat_toNat, BitVec.setWidth_eq]

@[simp] theorem tripleRead_eq (v : Triple) : tripleRead v = v := by
  have bytes : tripleRead v = BitVec.ofNat 24 ((BitVec.ofNat 8 (v.toNat / 65536)).toNat * 65536
    + ((BitVec.ofNat 8 (v.toNat / 256)).toNat * 256 + (BitVec.ofNat 8 v.toNat).toNat)) := rfl
  have := v.isLt
  rw [bytes]
  apply BitVec.eq_of_toNat_eq
  simp only [BitVec.toNat_ofNat]
  omega

/-- A Station Setup payload names its setting and its value. -/
theorem requestOf_stationSetup (p : Port) {k : Nat} (small : k < 256) (v : Half) :
    requestOf p 1 (u8 k ++ u16 v.toNat) =
      some (1, reqStationSetup k v.toNat) := by
  have number : (BitVec.ofNat 8 k).toNat = k := Nat.mod_eq_of_lt small
  show some (1, reqStationSetup (BitVec.ofNat 8 k).toNat _) = _
  rw [number]
  exact congrArg (fun w => some (1, reqStationSetup k w)) (half_high_low v)

/-- The number of Request Frames that a request code is sent in (R178). -/
def requestFrameCount (code : Byte) : Nat :=
  match code.toNat with
  | 8 | 9 => 3
  | 14 | 21 | 22 | 27 => 2
  | _ => 1

theorem frameCount_requestPayload {c : Instr} {p : Port} {code tag : Byte} (origin : requestOrigin c = some (p, code, tag)) :
    frameCount (requestPayload c).length = requestFrameCount code := by
  cases c <;> cases origin <;> simp [requestPayload, requestFrameCount, frameCount, u8, u16, u24]

/-- Every request command arrives as the request that its code and its payload bytes spell, in the number of frames
of its code. -/
theorem exec_of_requestOrigin {c : Instr} {p : Port} {code tag : Byte} (origin : requestOrigin c = some (p, code, tag)) :
    ∃ op, requestOf p code (requestPayload c) = some (requestFrameCount code, op)
      ∧ ∀ s, exec c s = .next (requestArrives p code tag op (settle s)) := by
  cases c <;> cases origin
  case stationSetupArraySize v => exact ⟨reqArraySize v.toNat, requestOf_stationSetup p (k := 1) (by decide) v, fun _ => rfl⟩
  case stationSetupFrameRate v => exact ⟨reqFrameRate v.toNat, requestOf_stationSetup p (k := 2) (by decide) v, fun _ => rfl⟩
  case stationSetupStepPeriod v => exact ⟨reqStepPeriod v.toNat, requestOf_stationSetup p (k := 3) (by decide) v, fun _ => rfl⟩
  case stationSetupDropLength v => exact ⟨reqDropLength v.toNat, requestOf_stationSetup p (k := 4) (by decide) v, fun _ => rfl⟩
  case stationSetupCeiling v => exact ⟨reqCeiling v.toNat, requestOf_stationSetup p (k := 5) (by decide) v, fun _ => rfl⟩
  case stationSetupTravelWarn v => exact ⟨reqTravelWarn v.toNat, requestOf_stationSetup p (k := 6) (by decide) v, fun _ => rfl⟩
  case stationSetupTravelLimit v => exact ⟨reqTravelLimit v.toNat, requestOf_stationSetup p (k := 7) (by decide) v, fun _ => rfl⟩
  case stationSetupSilenceTime v => exact ⟨reqSilenceTime v.toNat, requestOf_stationSetup p (k := 8) (by decide) v, fun _ => rfl⟩
  case stationSetupMonWindow v => exact ⟨reqMonWindow v.toNat, requestOf_stationSetup p (k := 9) (by decide) v, fun _ => rfl⟩
  case stationSetupWindowLimit v => exact ⟨reqWindowLimit v.toNat, requestOf_stationSetup p (k := 10) (by decide) v, fun _ => rfl⟩
  case stationSetupVerifyTries v => exact ⟨reqVerifyTries v.toNat, requestOf_stationSetup p (k := 11) (by decide) v, fun _ => rfl⟩
  case stationSetupFailLimit v => exact ⟨reqFailLimit v.toNat, requestOf_stationSetup p (k := 12) (by decide) v, fun _ => rfl⟩
  case stationSetupHoldover v => exact ⟨reqHoldover v.toNat, requestOf_stationSetup p (k := 13) (by decide) v, fun _ => rfl⟩
  case stationSetupDebounce v => exact ⟨reqDebounce v.toNat, requestOf_stationSetup p (k := 14) (by decide) v, fun _ => rfl⟩
  case stationQuery x => exact ⟨reqStationQuery x, rfl, fun _ => rfl⟩
  case statusQuery => exact ⟨reqStatusQuery, rfl, fun _ => rfl⟩
  case counterClear => exact ⟨reqCounterClear, rfl, fun _ => rfl⟩
  case unitReset => exact ⟨reqUnitReset, rfl, fun _ => rfl⟩
  case noticeSetup x y z => exact ⟨reqNoticeSetup x y z, rfl, fun _ => rfl⟩
  case patternOpen x => exact ⟨reqPatternOpen x, rfl, fun _ => rfl⟩
  case towerEntryRemove x y => exact ⟨reqTowerEntryRemove x y, rfl, fun _ => rfl⟩
  case patternClose x => exact ⟨reqPatternClose x, rfl, fun _ => rfl⟩
  case patternErase x => exact ⟨reqPatternErase x, rfl, fun _ => rfl⟩
  case patternRead x y => exact ⟨reqPatternRead x y, rfl, fun _ => rfl⟩
  case shift x => exact ⟨reqShift p x, rfl, fun _ => rfl⟩
  case shiftCancel => exact ⟨reqShiftCancel, rfl, fun _ => rfl⟩
  case abort => exact ⟨reqAbort p, rfl, fun _ => rfl⟩
  case towerLockout x y => exact ⟨reqTowerLockout x y, rfl, fun _ => rfl⟩
  case towerRestore x => exact ⟨reqTowerRestore x, rfl, fun _ => rfl⟩
  case towerStatus x => exact ⟨reqTowerStatus x, rfl, fun _ => rfl⟩
  case scheduleClear => exact ⟨reqScheduleClear, rfl, fun _ => rfl⟩
  case scheduleHold x => exact ⟨reqScheduleHold x, rfl, fun _ => rfl⟩
  case scheduleRead x => exact ⟨reqScheduleRead x, rfl, fun _ => rfl⟩
  case contactSetup l x y q r => exact ⟨reqContactSetup l x y q r, rfl, fun _ => rfl⟩
  case setPreferredPort x => exact ⟨reqSetPreferred x, rfl, fun _ => rfl⟩
  case setChangeoverMode x => exact ⟨reqSetMode x, rfl, fun _ => rfl⟩
  case clearBar x => exact ⟨reqClearBar x, rfl, fun _ => rfl⟩
  case forceOwner x => exact ⟨reqForceOwner x, rfl, fun _ => rfl⟩
  case patternHeader x r k cap ramp limit f m =>
    refine ⟨reqPatternHeader x r k (halfRead cap) (halfRead ramp) (halfRead limit) f m, rfl, fun s => ?_⟩
    simp only [halfRead_eq]
    rfl
  case towerEntry x k wr wi q xr xi tol =>
    refine ⟨reqTowerEntry x k (halfRead wr) (halfRead wi) q (halfRead xr) (halfRead xi) tol, rfl, fun s => ?_⟩
    simp only [halfRead_eq]
    rfl
  case weightTrim x k dr di =>
    refine ⟨reqWeightTrim x k (halfRead dr) (halfRead di), rfl, fun s => ?_⟩
    simp only [halfRead_eq]
    rfl
  case timeSet n d =>
    refine ⟨reqTimeSet (tripleRead n) d, rfl, fun s => ?_⟩
    rw [tripleRead_eq]
    rfl
  case scheduleAdd n d x =>
    refine ⟨reqScheduleAdd (tripleRead n) d x, rfl, fun s => ?_⟩
    rw [tripleRead_eq]
    rfl
  case scheduleDelete n =>
    refine ⟨reqScheduleDelete (tripleRead n), rfl, fun s => ?_⟩
    rw [tripleRead_eq]
    rfl

end Sys2Proof.Machine
end

section
/-! PROOFS. A request turned away, and a request command as its run of frames (R160 to R163). -/

namespace Sys2Proof.Machine

/-! ### The abandonment of a request in assembly (R162) -/

theorem abandonRequest_of_assembling {s : State} {p : Port} {code tag : Byte} {n m : Nat} {pl : List Byte}
    (h : (s.port p).assembly = .assembling code tag n m pl) :
    abandonRequest p s = badRequest p code tag (setAssembly p .idle s) := by
  simp [abandonRequest, h]

theorem badRequest_of_full {s : State} {p : Port} {r : ReplySlot} (code tag : Byte) (h : (s.port p).slot = some r) :
    badRequest p code tag s = overrun p s := by
  simp [badRequest, h]

theorem badRequest_of_empty {s : State} {p : Port} (code tag : Byte) (h : (s.port p).slot = none) :
    badRequest p code tag s = placeReply p code tag (refuse .badRequest) s := by
  simp [badRequest, h]

theorem takeRequest_of_full {s : State} {p : Port} {r : ReplySlot} (code tag : Byte) (op : RequestOp)
    (h : (s.port p).slot = some r) : takeRequest p code tag op s = overrun p s := by
  simp [takeRequest, h]

/-- What an abandonment does is at its own port alone, and leaves the port IDLE. -/
theorem abandonRequest_port (p : Port) (s : State) :
    ∃ x : PortState, x.assembly = .idle ∧ abandonRequest p s = s.setPort p x := by
  cases assembly : (s.port p).assembly with
  | idle => exact ⟨s.port p, assembly, by rw [abandonRequest_of_idle s assembly]; cases p <;> rfl⟩
  | assembling code tag n m pl =>
    rw [abandonRequest_of_assembling assembly]
    cases slot : (s.port p).slot with
    | none =>
      rw [badRequest_of_empty code tag (by simp [setAssembly, slot])]
      exact ⟨_, by simp [setAssembly], setPort_setPort s p _ _⟩
    | some r =>
      rw [badRequest_of_full code tag (r := r) (by simp [setAssembly, slot])]
      exact ⟨_, by simp [setAssembly], setPort_setPort s p _ _⟩

theorem abandonRequest_idle (p : Port) (s : State) : ((abandonRequest p s).port p).assembly = .idle := by
  obtain ⟨x, idle, h⟩ := abandonRequest_port p s
  rw [h, setPort_port, idle]

theorem abandonRequest_due (p : Port) (s : State) : (abandonRequest p s).due = s.due := by
  obtain ⟨x, _, h⟩ := abandonRequest_port p s
  rw [h, setPort_due]

/-- Settles O7: the arrival of any request, by what its port holds. -/
theorem request_turned_away : Obligations.Request_turned_away := by
  intro c p code tag s origin due
  obtain ⟨op, _, arrives⟩ := exec_of_requestOrigin origin
  rw [arrives s, settle_of_due_nil s due, requestArrives]
  refine ⟨fun r slot idle => ?full, fun r code' tag' n m pl slot assembling => ?fullAssembling,
    fun code' tag' n m pl slot assembling => ?assembling⟩
  case full => rw [abandonRequest_of_idle s idle, takeRequest_of_full code tag op slot]; rfl
  case fullAssembling =>
    have abandoned : abandonRequest p s
        = s.setPort p { s.port p with assembly := .idle, overruns := bump (s.port p).overruns } := by
      rw [abandonRequest_of_assembling assembling, badRequest_of_full (r := r) _ _ (by simp [setAssembly, slot])]
      simp [overrun, setAssembly]
    rw [abandoned, takeRequest_of_full code tag op (r := r) (by simp [slot])]
    simp [overrun]
  case assembling =>
    have abandoned : abandonRequest p s = s.setPort p
        { s.port p with
          assembly := .idle
          slot := some { request := code', tag := tag', reply := refuse .badRequest, sent := 0 } } := by
      rw [abandonRequest_of_assembling assembling, badRequest_of_empty _ _ (by simp [setAssembly, slot])]
      simp [placeReply, setAssembly]
    rw [abandoned, takeRequest_of_full code tag op
      (r := { request := code', tag := tag', reply := refuse .badRequest, sent := 0 }) (by simp)]
    simp [overrun]

/-! ### The padding of a payload (R179) -/

theorem byteAt_padTo (w : Nat) (bs : List Byte) (k : Nat) : byteAt (padTo w bs) k = byteAt bs k := by
  simp only [byteAt, padTo, List.getD_eq_getElem?_getD, List.getElem?_append]
  split
  · rfl
  · next out =>
    rw [List.getElem?_eq_none (Nat.le_of_not_lt out), List.getElem?_replicate]
    split <;> rfl

/-- A request is read from its payload byte by byte, so that padding does not change it. -/
theorem requestOf_padTo (p : Port) (code : Byte) (w : Nat) (bs : List Byte) :
    requestOf p code (padTo w bs) = requestOf p code bs := by
  have bytes : byteAt (padTo w bs) = byteAt bs := funext (byteAt_padTo w bs)
  simp only [requestOf, wordAt, bytes]

theorem padTo_length {w : Nat} {bs : List Byte} (h : bs.length ≤ w) : (padTo w bs).length = w := by
  simp only [padTo, List.length_append, List.length_replicate]; omega

/-- A list cut into pieces of one width. -/
theorem flatten_take_drop {α : Type} (w m : Nat) (l : List α) :
    ((List.range m).map fun k => (l.drop (w * k)).take w).flatten = l.take (w * m) := by
  induction m with
  | zero => simp
  | succ m ih =>
    rw [List.range_succ, List.map_append, List.flatten_append, ih, Nat.mul_succ, List.take_add]
    simp

/-! ### The run of frames -/

theorem execAll_cons_requestFrame (p : Port) (bytes : List Byte) (rest : List Instr) (s : State) :
    execAll (.requestFrame p bytes :: rest) s = execAll rest (sourceFrame p bytes (settle s)) := rfl

theorem sourceFrame_requestFirst {n : Nat} (small : n < 8) (p : Port) (code tag : Byte) {payload : List Byte}
    (length : payload.length = 3) (s : State) :
    sourceFrame p (encodeSourceFrame (.requestFirst n code tag payload)) s = firstFrame p n code tag payload s := by
  rw [sourceFrame, decode_encode_requestFirst small code tag length]

theorem sourceFrame_requestNext (p : Port) {payload : List Byte} (length : payload.length = 6) (s : State) :
    sourceFrame p (encodeSourceFrame (.requestNext payload)) s = nextFrame p payload s := by
  rw [sourceFrame, decode_encode_requestNext length]

theorem setAssembly_due (p : Port) (a : Assembly) (s : State) : (setAssembly p a s).due = s.due := setPort_due s p _

theorem setAssembly_idle_of_idle {p : Port} {s : State} (h : (s.port p).assembly = .idle) : setAssembly p .idle s = s := by
  cases p <;> simp only [setAssembly, ← h] <;> rfl

/-- The continuations of a request in assembly, the last of which completes it (R163). -/
theorem execAll_continuations {p : Port} {code tag : Byte} {count : Nat} (x : List Byte) (xs : List (List Byte))
    (length : ∀ y ∈ x :: xs, y.length = 6) {taken : Nat} (last : taken + (xs.length + 1) = count) (got : List Byte)
    {s : State} (due : s.due = []) :
    execAll ((x :: xs).map fun y => .requestFrame p (encodeSourceFrame (.requestNext y)))
        (setAssembly p (.assembling code tag count taken got) s)
      = .next (completeRequest p code tag count (got ++ (x :: xs).flatten) (setAssembly p .idle s)) := by
  induction xs generalizing x taken got with
  | nil =>
    rw [List.map_cons, execAll_cons_requestFrame, settle_of_due_nil _ ((setAssembly_due p _ s).trans due),
      sourceFrame_requestNext p (length x List.mem_cons_self)]
    have complete : taken + 1 = count := by simpa using last
    simp [nextFrame, setAssembly, complete, execAll]
  | cons y ys ih =>
    rw [List.map_cons, execAll_cons_requestFrame, settle_of_due_nil _ ((setAssembly_due p _ s).trans due),
      sourceFrame_requestNext p (length x List.mem_cons_self)]
    have more : taken + 1 ≠ count := by simp only [List.length_cons] at last; omega
    have appended : nextFrame p x (setAssembly p (.assembling code tag count taken got) s)
        = setAssembly p (.assembling code tag count (taken + 1) (got ++ x)) s := by
      simp [nextFrame, setAssembly, more]
    rw [appended, ih y (fun z hz => length z (List.mem_cons_of_mem x hz))
      (by simp only [List.length_cons] at last; omega) (got ++ x)]
    simp

theorem completeRequest_of_requestOf {p : Port} {code tag : Byte} {count : Nat} {op : RequestOp} {payload : List Byte}
    (request : requestOf p code payload = some (count, op)) (s : State) :
    completeRequest p code tag count payload s = takeRequest p code tag op s := by
  simp [completeRequest, request]

theorem requestFrameCount_range (code : Byte) : 1 ≤ requestFrameCount code ∧ requestFrameCount code ≤ 3 := by
  unfold requestFrameCount; split <;> decide

theorem le_of_frameCount {n bytes : Nat} (h : frameCount bytes = n) : bytes ≤ 6 * n - 3 := by
  unfold frameCount at h; omega

/-- A request's run of frames does what the arrival of the request does. -/
theorem execAll_requestRun {p : Port} {code tag : Byte} {payload : List Byte} {op : RequestOp} {n : Nat}
    (frames : frameCount payload.length = n) (range : 1 ≤ n ∧ n ≤ 3)
    (request : requestOf p code payload = some (n, op)) (s : State) :
    execAll ((requestRun code tag payload).map fun bytes => .requestFrame p bytes) s
      = .next (requestArrives p code tag op (settle s)) := by
  obtain ⟨least, most⟩ := range
  let full := padTo (6 * n - 3) payload
  have fullLength : full.length = 6 * n - 3 := padTo_length (le_of_frameCount frames)
  have fullRequest : requestOf p code full = some (n, op) := (requestOf_padTo p code _ payload).trans request
  have firstLength : (full.take 3).length = 3 := by rw [List.length_take, fullLength]; omega
  have run : requestRun code tag payload = encodeSourceFrame (.requestFirst n code tag (full.take 3))
      :: (List.range (n - 1)).map fun k => encodeSourceFrame (.requestNext (((full.drop 3).drop (6 * k)).take 6)) := by
    simp only [requestRun, frames, List.drop_drop, full, Nat.add_comm 3]
  rw [run, List.map_cons, execAll_cons_requestFrame, sourceFrame_requestFirst (by omega) p code tag firstLength,
    requestArrives]
  by_cases single : n = 1
  · subst single
    have whole : full.take 3 = full := List.take_of_length_le (by rw [fullLength])
    simp [firstFrame, whole, completeRequest_of_requestOf fullRequest, execAll]
  · have first : firstFrame p n code tag (full.take 3) (settle s)
        = setAssembly p (.assembling code tag n 1 (full.take 3)) (abandonRequest p (settle s)) := by
      simp only [firstFrame]
      rw [if_neg (by omega), if_neg single]
    obtain ⟨m, rfl⟩ : ∃ m, n = m + 2 := ⟨n - 2, by omega⟩
    let pieces := (List.range (m + 1)).map fun k => ((full.drop 3).drop (6 * k)).take 6
    have piecesLength : ∀ y ∈ pieces, y.length = 6 := by
      intro y hy
      obtain ⟨k, hk, rfl⟩ := List.mem_map.mp hy
      have := List.mem_range.mp hk
      simp only [List.length_take, List.length_drop, fullLength]
      omega
    have split : full.take 3 ++ pieces.flatten = full := by
      have rest : ((full.drop 3).take (6 * (m + 1))) = full.drop 3 :=
        List.take_of_length_le (by simp only [List.length_drop, fullLength]; omega)
      rw [flatten_take_drop, rest, List.take_append_drop]
    have due : (abandonRequest p (settle s)).due = [] := (abandonRequest_due p _).trans (settle_due s)
    have pieced := execAll_continuations (p := p) (code := code) (tag := tag) (count := m + 2)
      (pieces.head (by simp [pieces])) pieces.tail (by rwa [List.cons_head_tail]) (taken := 1)
      (by simp [pieces]; omega) (full.take 3) due
    rw [List.cons_head_tail, split, setAssembly_idle_of_idle (abandonRequest_idle p _),
      completeRequest_of_requestOf fullRequest] at pieced
    rw [first, ← pieced, List.map_map]
    simp [pieces, Function.comp_def]

/-- Settles O9: a request command, by its run of frames. -/
theorem request_command_equals_its_frames : Obligations.Request_command_equals_its_frames := by
  intro c p code tag s origin
  obtain ⟨op, request, arrives⟩ := exec_of_requestOrigin origin
  have frames : requestFrames c = (requestRun code tag (requestPayload c)).map fun bytes => .requestFrame p bytes := by
    simp [requestFrames, origin]
  refine ⟨by simp [frames, requestRun], ?_⟩
  rw [frames, arrives s]
  exact execAll_requestRun (frameCount_requestPayload origin) (requestFrameCount_range code) request s

end Sys2Proof.Machine
end

section
/-! PROOFS. What a step is made of: every operation on the array is a run of single writes, each made under its own guard.
The laws of O56 to O60 are then proved against one write at a time. -/

namespace Sys2Proof.Machine

/-! ### The single writes -/

/-- Two states that agree in everything that the laws read, the counters and the time laws aside. -/
structure SameControl (s t : State) : Prop where
  settings : t.settings = s.settings
  patterns : t.patterns = s.patterns
  live : t.engine.live = s.engine.live
  nets : t.nets = s.nets
  towers : t.link.towers = s.link.towers
  array : t.shift.array = s.shift.array
  queue : t.shift.queue = s.shift.queue
  timer : t.shift.timer = s.shift.timer
  duty : t.monitor.duty = s.monitor.duty

/-- A pattern that a transition may take as its source: one in use as the live pattern or as a source, or the one that
the monitor watches (R52, R55). -/
def State.Sourced (s : State) (source : Option Slot) : Prop :=
  ∀ p ∈ source, s.markLive p = true ∨ s.markSource p = true ∨ s.monitor.duty = .steady p

/-- A context at the beginning of a DROP, a SWITCH or a CROSS, its ramp from the live weights (R64, R66, R67, R70). -/
structure State.Begins (s : State) (c : Context) : Prop where
  start : c.startA = s.engine.live
  drop : c.phase = .drop → c.stepCount = 0 ∧ c.stepTotal = some s.settings.dropLength
  cross : c.phase = .cross → c.stepCount = 0 ∧ ∃ p, c.target = some p
    ∧ (∀ h ∈ (s.record p).header, c.stepTotal = some h.ramp) ∧ ∀ t : Tower, c.endB.get t = (s.record p).weightFor t
  verify : c.phase ≠ .verify
  toZero : c.target = none → c.phase = .drop

/-- A later context of the same phase of the same transition. -/
structure Context.Continues (c d : Context) : Prop where
  source : d.source = c.source
  target : d.target = c.target
  phase : d.phase = c.phase
  stepCount : d.stepCount = c.stepCount
  stepTotal : d.stepTotal = c.stepTotal
  endB : d.endB = c.endB
  power : powerOf d.startA ≤ powerOf c.startA

/-- The context in SWITCH, with all that it waits for still to come (R67). -/
def Context.inSwitch (c : Context) : Context :=
  { c with phase := .switch, stepCount := 0, stepTotal := none, switchWait := 0 }

/-- The context in VERIFY, with no window used yet (R72). -/
def Context.inVerify (c : Context) : Context :=
  { c with phase := .verify, stepCount := 0, stepTotal := none, verifyUsed := 0 }

/-- The context one ramp step later (R64). -/
def Context.stepped (c : Context) : Context := { c with stepCount := c.stepCount + 1 }

/-- The array after a ramp step, by whether it is the last one and by what it drops or crosses to (R66, R70, R72, R77). -/
inductive Context.StepsTo (c : Context) : ArrayState → Prop
  | on (more : c.stepCount + 1 < c.stepTotal.getD 1) : StepsTo c (.shifting c.stepped)
  | switch {p : Slot} (last : c.stepTotal.getD 1 ≤ c.stepCount + 1) (target : c.target = some p) (drop : c.phase = .drop) :
    StepsTo c (.shifting c.inSwitch)
  | verify {p : Slot} (last : c.stepTotal.getD 1 ≤ c.stepCount + 1) (target : c.target = some p) (cross : c.phase = .cross) :
    StepsTo c (.shifting c.inVerify)
  | rest {a : ArrayState} (last : c.stepTotal.getD 1 ≤ c.stepCount + 1) (target : c.target = none)
    (rest : a = .safe ∨ a = .noPattern) : StepsTo c a

/-- One write of the state with the guard under which it is made. -/
inductive Write : State → State → Prop
  | elsewhere {s t : State} (same : SameControl s t) (counters : s.CounterLaw → t.CounterLaw)
    (time : s.TimeLaw → t.TimeLaw) : Write s t
  | setting {s : State} {x : Settings} (legal : s.settings.Legal → x.Legal) (size : x.arraySize = s.settings.arraySize)
    (ceiling : x.ceiling = s.settings.ceiling) : Write s (s.setSettings x)
  | ceiling {s : State} {v : Nat} (rest : s.shifting = false) (range : v ≤ 65535) (caps : capAbove s v = false) :
    Write s (s.setSettings { s.settings with ceiling := v })
  | resize {s : State} {v : Nat} (rest : s.atRest = true) (range : 2 ≤ v ∧ v ≤ 12) (entries : entryAbove s v = false) :
    Write s (resizeArray v s)
  | record {s : State} {p : Slot} {r : PatternRecord} (legal : s.EntriesLaw → r.Legal s.settings.arraySize)
    (unused : (s.record p).isReady = true → s.inUse p = false) (ready : r.isReady = true → r.ReadyLegal s.settings.ceiling) :
    Write s (s.setRecord p r)
  | trim {s : State} {p : Slot} {h : Header} {es : List Entry} {e : Entry} {delta : Cpx}
    (old : s.record p = .ready h es) (entry : e ∈ es) (free : s.collides p = false)
    (cap : rawPower (putEntry (trimmed h.trimLimit e delta) es) ≤ h.cap * 65536) :
    Write s (applyLiveTrim p (trimmed h.trimLimit e delta)
      (s.setRecord p (.ready h (putEntry (trimmed h.trimLimit e delta) es))))
  | unitReset (s : State) : Write s (unitReset s)
  | tower {s : State} {t : Tower} {e : TowerEntry}
    (hold : (e.lockout || e.causes.any) = true → s.outOfService t = true ∨ s.live t = Cpx.zero)
    (jam : (s.tower t).causes.jammed = true → e.causes.jammed = true ∨ (s.net t).state.isSettled = true) :
    Write s (s.setTower t e)
  | net {s : State} {t : Tower} {r : NetRecord}
    (inside : s.inArray t = true ∨ (s.net t).state ≠ .unknown ∨ r.state = (s.net t).state)
    (jam : r.state = .jammed → (s.net t).state = .jammed ∨ (s.tower t).causes.jammed = true)
    (hold : (r.state.isMoving || r.state == .drifting) = true → s.live t = Cpx.zero ∨ r.state = (s.net t).state) :
    Write s (s.setNet t r)
  | withdraw (s : State) : Write s (withdrawAll s)
  | silence (s : State) (t : Tower) : Write s (forceZero t s)
  | shorten {s : State} {q : List Order} (part : q <:+: s.shift.queue) : Write s (s.setQueue q)
  | cancel (s : State) : Write s (s.setQueue (s.shift.queue.filter fun o => !o.cause.isRoutine))
  | enqueue {s : State} {o : Order} {p : Slot} (routine : o.cause.isRoutine = true) (target : o.target = some p)
    (ready : (s.record p).isReady = true) (room : s.shift.queue.length < 4)
    (tail : (s.shift.queue.getLast?.map fun x => x.target) ≠ some o.target) : Write s (s.setQueue (s.shift.queue ++ [o]))
  | startTimer (s : State) : Write s (startTimer s)
  | stopTimer (s : State) : Write s (stopTimer s)
  | reload (s : State) : Write s (s.setTimer { s.shift.timer with counter := s.settings.stepPeriod })
  | endDuty (s : State) : Write s (s.setDuty .none)
  | verifyDuty {s : State} {c : Context} {p : Slot} (array : s.shift.array = .shifting c) (verify : c.phase = .verify)
    (target : c.target = some p) : Write s (s.setDuty (.verify p))
  | enter {s : State} {c : Context} (source : s.Sourced c.source)
    (target : ∀ p ∈ c.target, (s.record p).isReady = true) (begins : s.Begins c) :
    Write s ((s.setDuty .none).setArray (.shifting c))
  | cross {s : State} {b c : Context} (array : s.shift.array = .shifting b) (switch : b.phase = .switch)
    (source : c.source = b.source) (target : c.target = b.target) (begins : s.Begins c) : Write s (s.setArray (.shifting c))
  | adjust {s : State} {b c : Context} (array : s.shift.array = .shifting b) (continues : b.Continues c) :
    Write s (s.setArray (.shifting c))
  | rest {s : State} {c : Context} {a : ArrayState} (array : s.shift.array = .shifting c) (drop : c.phase = .drop)
    (zero : s.allZero = true) (rest : a = .safe ∨ a = .noPattern) : Write s (s.setArray a)
  | step {s : State} {c : Context} {a : ArrayState} (array : s.shift.array = .shifting c)
    (ramp : c.phase = .drop ∨ c.phase = .cross) (steps : c.StepsTo a) :
    Write s (writeAllWeights (stepWeights c (c.stepCount + 1)) (s.setArray a))
  | succeed {s : State} {c : Context} {p : Slot} (array : s.shift.array = .shifting c) (verify : c.phase = .verify)
    (target : c.target = some p) : Write s ((s.setArray (.steady p)).setDuty (.steady p))

/-- A run of single writes. -/
abbrev Runs : State → State → Prop := Relation.ReflTransGen Write

theorem Write.runs {s t : State} (w : Write s t) : Runs s t := .single w

theorem Runs.refl (s : State) : Runs s s := Relation.ReflTransGen.refl

/-- What every single write keeps, a run of writes keeps. -/
theorem Runs.keeps {I : State → Prop} (one : ∀ s t, Write s t → I s → I t) {s t : State} (run : Runs s t) (h : I s) : I t := by
  induction run with
  | refl => exact h
  | tail _ w ih => exact one _ _ w ih

/-! ### Writes that no law reads -/

/-- Two states that agree in everything that the laws read. -/
structure Quiet (s t : State) : Prop where
  settings : t.settings = s.settings
  patterns : t.patterns = s.patterns
  engine : t.engine = s.engine
  nets : t.nets = s.nets
  towers : t.link.towers = s.link.towers
  returnErrors : t.link.returnErrors = s.link.returnErrors
  array : t.shift.array = s.shift.array
  queue : t.shift.queue = s.shift.queue
  timer : t.shift.timer = s.shift.timer
  duty : t.monitor.duty = s.monitor.duty
  records : t.monitor.records = s.monitor.records
  portA : t.portA = s.portA
  portB : t.portB = s.portB
  buffer : t.buffer = s.buffer
  timebase : t.timebase = s.timebase
  schedule : t.schedule = s.schedule

theorem Quiet.runs {s t : State} (q : Quiet s t) : Runs s t := by
  obtain ⟨settings, patterns, engine, nets, towers, returnErrors, array, queue, timer, duty, records, portA, portB, buffer,
    timebase, schedule⟩ := q
  refine Write.runs (.elsewhere ⟨settings, patterns, by rw [engine], nets, towers, array, queue, timer, duty⟩ ?_ ?_)
  · intro h
    simp only [State.CounterLaw, engine, returnErrors, records, portA, portB, buffer]
    exact h
  · intro h
    simp only [State.TimeLaw, timebase, schedule]
    exact h

variable (s : State)

theorem raise_quiet (n : Notice) : Quiet s (raise n s) := by constructor <;> rfl

theorem raise_runs (n : Notice) : Runs s (raise n s) := (raise_quiet s n).runs

theorem setFlag_runs (b : Bool) : Runs s (s.setFlag b) := Quiet.runs (by constructor <;> rfl)

theorem setLastFailure_runs (f : LastFailure) : Runs s (s.setLastFailure f) := Quiet.runs (by constructor <;> rfl)

theorem setWindow_runs (w : Option Window) : Runs s (s.setWindow w) := Quiet.runs (by constructor <;> rfl)

theorem setDue_runs (d : List TickEvent) : Runs s (s.setDue d) := Quiet.runs (by constructor <;> rfl)

theorem setLine_runs (l : Line) (c : ContactLine) : Runs s (s.setLine l c) := Quiet.runs (by constructor <;> rfl)

theorem setNoticeSource_runs (i : Fin 13) (n : NoticeSource) : Runs s (s.setNoticeSource i n) :=
  Quiet.runs (by constructor <;> rfl)

theorem setSelector_runs (x : Selector) : Runs s (s.setSelector x) := Quiet.runs (by constructor <;> rfl)

theorem restartWindow_runs : Runs s (restartWindow s) := setWindow_runs s _

theorem muteChanged_runs (before : Bool) : Runs s (muteChanged before s) := by
  unfold muteChanged
  split
  · exact .refl _
  · exact restartWindow_runs s

theorem raises_runs {α : Type} (f : α → Notice) (xs : List α) : Runs s (xs.foldl (fun x a => raise (f a) x) s) := by
  induction xs generalizing s with
  | nil => exact .refl _
  | cons x xs ih => exact (raise_runs s _).trans (ih _)

theorem discardOrder_runs (o : Order) : Runs s (discardOrder o s) := raise_runs s _

/-! ### The tables of the towers and of the networks -/

theorem setCommanded_runs (t : Tower) (q : Option Pos) : Runs s (setCommanded t q s) :=
  Write.runs (.net (.inr (.inr rfl)) .inl fun _ => .inr rfl)

theorem startMove_runs {t : Tower} (p q : Pos) (inside : s.inArray t = true) (zero : s.live t = Cpx.zero) :
    Runs s (startMove t p q s) :=
  Write.runs (.net (.inl inside) (fun h => nomatch h) fun _ => .inl zero)

theorem requestMove_runs (t : Tower) (q : Pos) : Runs s (requestMove t q s).1 := by
  unfold requestMove
  split
  · exact setCommanded_runs s _ _
  · next service =>
    simp only [Bool.or_eq_true, Bool.not_eq_true', not_or, Bool.not_eq_false] at service
    split
    · split
      · exact setCommanded_runs s _ _
      · split
        · next zero => exact startMove_runs s _ _ service.2 zero
        · exact .refl _
    all_goals exact setCommanded_runs s _ _

theorem clearDuty_runs : Runs s (clearDuty s) := (Write.runs (.endDuty s)).trans (setWindow_runs _ _)

theorem endTransition_runs : Runs s (endTransition s) :=
  (Write.runs (.stopTimer s)).trans ((Write.runs (.withdraw _)).trans (clearDuty_runs _))

/-! ### The context of a transition -/

theorem State.Sourced.congr {s t : State} {source : Option Slot} (h : s.Sourced source) (array : t.shift.array = s.shift.array)
    (duty : t.monitor.duty = s.monitor.duty) : t.Sourced source := by
  intro p hp
  simp only [State.markLive, State.markSource, array, duty]
  exact h p hp

theorem sourced_none (s : State) : s.Sourced none := fun _ h => nomatch h

theorem sourced_of_shifting {s : State} {c : Context} (array : s.shift.array = .shifting c) : s.Sourced c.source :=
  fun p hp => .inr (.inl (by simp only [State.markSource, array, beq_iff_eq]; exact hp))

/-- A context that begins takes the array, the duty cleared and its window with it. -/
theorem enter_runs {c : Context} (source : s.Sourced c.source) (target : ∀ p ∈ c.target, (s.record p).isReady = true)
    (begins : s.Begins c) : Runs s ((clearDuty s).setArray (.shifting c)) :=
  (Write.runs (.enter source target begins)).trans (setWindow_runs _ none)

/-- A component set to (0, 0) does not raise the power. -/
theorem powerOf_set_zero (v : Vector Cpx 12) (t : Tower) : powerOf (v.set t Cpx.zero) ≤ powerOf v := by
  refine List.sum_le_sum fun u _ => ?_
  rw [get_set]
  split
  · exact Nat.zero_le _
  · exact Nat.le_refl _

theorem zeroStart_runs (t : Tower) : Runs s (zeroStart t s) := by
  unfold zeroStart
  split
  · next c array => exact Write.runs (.adjust array ⟨rfl, rfl, rfl, rfl, rfl, rfl, powerOf_set_zero _ _⟩)
  · exact .refl _

theorem leaveSwitchSet_runs (t : Tower) : Runs s (leaveSwitchSet t s) := by
  unfold leaveSwitchSet
  split
  · next c array =>
    split
    · exact (Write.runs (.adjust (c := { c with switchSet := c.switchSet.filter fun u => u != t }) array
        ⟨rfl, rfl, rfl, rfl, rfl, rfl, Nat.le_refl _⟩)).trans (setCommanded_runs _ _ _)
    · exact .refl _
  · exact .refl _

/-- The context of the CROSS that begins toward this record (R70). -/
def crossContext (c : Context) (r : PatternRecord) (live : Vector Cpx 12) : Context :=
  { c with
    phase := .cross
    stepCount := 0
    stepTotal := some (match r.header with
      | some h => h.ramp
      | none => 0)
    startA := live
    endB := tab fun t => r.weightFor t }

theorem beginCross_eq (c : Context) (p : Slot) :
    beginCross c p s = startTimer (s.setArray (.shifting (crossContext c (s.record p) s.engine.live))) := rfl

theorem begins_cross {c : Context} {p : Slot} (target : c.target = some p) :
    s.Begins (crossContext c (s.record p) s.engine.live) where
  start := rfl
  drop h := nomatch h
  cross _ := ⟨rfl, p, target, fun h hh => by simp [crossContext, Option.mem_def.mp hh], fun t => get_tab _ t⟩
  verify h := nomatch h
  toZero h := by
    rw [show (crossContext c (s.record p) s.engine.live).target = c.target from rfl, target] at h
    cases h

theorem endSwitchIfDone_runs : Runs s (endSwitchIfDone s) := by
  unfold endSwitchIfDone
  split
  · next c array =>
    split
    · next p switch target =>
      split
      · rw [beginCross_eq]
        exact (Write.runs (.cross (c := crossContext { c with stepTotal := none } _ _) array switch rfl rfl
          (begins_cross s target))).trans (Write.runs (.startTimer _))
      · exact .refl _
    · exact .refl _
  · exact .refl _

/-! ### The queue and the safe drop -/

theorem discardOrders_runs (os : List Order) : Runs s (os.foldl (fun s o => discardOrder o s) s) := raises_runs s _ os

theorem flushQueue_runs : Runs s (flushQueue s) :=
  (discardOrders_runs s _).trans (Write.runs (.shorten (List.nil_infix)))

theorem makeRoomAtHead_runs : Runs s (makeRoomAtHead s) := by
  unfold makeRoomAtHead
  split
  · split
    · exact (discardOrder_runs s _).trans (Write.runs (.shorten (List.dropLast_prefix _).isInfix))
    · exact .refl _
  · exact .refl _

theorem makeRoomAtHead_array : (makeRoomAtHead s).shift.array = s.shift.array := by
  unfold makeRoomAtHead
  split
  · split <;> rfl
  · rfl

theorem makeRoomAtHead_duty : (makeRoomAtHead s).monitor.duty = s.monitor.duty := by
  unfold makeRoomAtHead
  split
  · split <;> rfl
  · rfl

/-- A drop to zero that finds every weight at zero already ends at once (R77, R111). -/
theorem rest_runs {s : State} {c : Context} {a : ArrayState} (array : s.shift.array = .shifting c) (drop : c.phase = .drop)
    (zero : s.allZero = true) (rest : a = .safe ∨ a = .noPattern) : Runs s (stopTimer (s.setArray a)) :=
  (Write.runs (.rest array drop zero rest)).trans (Write.runs (.stopTimer _))

theorem begins_toZero {c : Context} (start : c.startA = s.engine.live) (phase : c.phase = .drop) (count : c.stepCount = 0)
    (total : c.stepTotal = some s.settings.dropLength) : s.Begins c where
  start := start
  drop _ := ⟨count, total⟩
  cross h := by rw [phase] at h; cases h
  verify h := by rw [phase] at h; cases h
  toZero _ := phase

theorem begins_switch {c : Context} {p : Slot} (start : c.startA = s.engine.live) (target : c.target = some p) :
    s.Begins c.inSwitch where
  start := start
  drop h := nomatch h
  cross h := nomatch h
  verify h := nomatch h
  toZero h := by
    rw [show c.inSwitch.target = c.target from rfl, target] at h
    cases h

theorem safeDrop_runs (p : Slot) (r : Reason) (x : Prior) : Runs s (safeDrop p r x s) := by
  unfold safeDrop
  dsimp only
  have begun : Runs s (startTimer ((clearDuty (flushQueue s)).setArray
      (.shifting (safeDropContext p r x (clearDuty (flushQueue s)))))) :=
    (flushQueue_runs s).trans ((enter_runs (flushQueue s)
      (c := safeDropContext p r x (clearDuty (flushQueue s))) (sourced_none _) (fun _ h => nomatch h)
      (begins_toZero _ rfl rfl rfl rfl)).trans (Write.runs (.startTimer _)))
  split
  · next zero => exact begun.trans ((rest_runs rfl rfl zero (.inl rfl)).trans (raise_runs _ _))
  · exact begun

/-! ### How a transition begins -/

section
variable {fail : Reason → Option Tower → State → State} (failRuns : ∀ r t x, Runs x (fail r t x))
include failRuns

theorem sendMoves_runs (p : Slot) (ts : List Tower) : Runs s (sendMoves fail p ts s).1 := by
  induction ts generalizing s with
  | nil => exact .refl _
  | cons t ts ih =>
    have moved := requestMove_runs s t ((s.record p).wanted t)
    unfold sendMoves
    split
    · next u answer =>
      rw [answer] at moved
      split
      · exact moved.trans ((zeroStart_runs _ _).trans (failRuns _ _ _))
      · exact moved.trans ((zeroStart_runs _ _).trans ((leaveSwitchSet_runs _ _).trans (ih _)))
    · next u _ _ answer =>
      rw [answer] at moved
      exact moved.trans (ih _)

/-- SWITCH, from the array that has just taken its context on. -/
theorem switch_runs (p : Slot) (ts : List Tower) : Runs s (match sendMoves fail p ts s with
    | (u, true) => endSwitchIfDone u
    | (u, false) => u) := by
  have sent := sendMoves_runs s failRuns p ts
  split
  · next u answer => rw [answer] at sent; exact sent.trans (endSwitchIfDone_runs u)
  · next u answer => rw [answer] at sent; exact sent

theorem beginTransitionWith_runs {st : Start} (source : s.Sourced st.source) (ready : (s.record st.target).isReady = true) :
    Runs s (beginTransitionWith fail st s) := by
  have target : ∀ p ∈ some st.target, (s.record p).isReady = true := fun p hp => Option.some.inj hp ▸ ready
  unfold beginTransitionWith
  dsimp only
  split
  · exact (enter_runs s (c := { startContext st (clearDuty s) with stepTotal := some s.settings.dropLength }) source target
      (begins_toZero s rfl rfl rfl rfl)).trans (Write.runs (.startTimer _))
  · split
    · exact (enter_runs s source target (begins_cross s rfl)).trans (Write.runs (.startTimer _))
    · exact (enter_runs s (c := (startContext st (clearDuty s)).inSwitch) source target
        (begins_switch s rfl rfl)).trans
        (switch_runs _ failRuns _ _)

end

theorem ready_of_resolve {s : State} {failed p : Slot} {links : Nat} (found : resolve s failed = (some p, links)) :
    (s.record p).isReady = true := by
  obtain ⟨_, _, accepted, _⟩ := (resolve_eq_some_iff s failed p links).mp found
  exact accepted.2.1

section
variable {start : Start → State → State}
  (startRuns : ∀ st x, State.Sourced x st.source → (x.record st.target).isReady = true → Runs x (start st x))
include startRuns

theorem handleFailureWith_runs {f : Failure} (source : s.Sourced f.source) : Runs s (handleFailureWith start f s) := by
  unfold handleFailureWith
  dsimp only
  split
  · exact (setLastFailure_runs _ _).trans (safeDrop_runs _ _ _ _)
  · split
    · next p links found =>
      refine (setLastFailure_runs s _).trans ((makeRoomAtHead_runs _).trans ((startRuns _ _ ?_ ?_).trans (raise_runs _ _)))
      · exact source.congr (makeRoomAtHead_array _) (makeRoomAtHead_duty _)
      · rw [record_congr (makeRoomAtHead_outside _).patterns]
        exact ready_of_resolve found
    · exact (setLastFailure_runs _ _).trans (safeDrop_runs _ _ _ _)

theorem failTransitionWith_runs (d : Option (Tower × Verdict × Nat)) (r : Reason) (t : Option Tower) :
    Runs s (failTransitionWith start d r t s) := by
  unfold failTransitionWith
  split
  · next c array =>
    split
    · exact (endTransition_runs s).trans ((raise_runs _ _).trans
        (handleFailureWith_runs _ startRuns (sourced_of_shifting array)))
    · exact .refl _
  · exact .refl _

end

end Sys2Proof.Machine
end

section
/-! PROOFS. The operations of the array, the monitor and the networks as runs of single writes. -/

namespace Sys2Proof.Machine

variable (s : State)

/-! ### Failures -/

theorem failFallback_runs (r : Reason) (t : Option Tower) : Runs s (failFallback r t s) :=
  failTransitionWith_runs s (fun _ _ _ _ => .refl _) _ _ _

theorem startFallback_runs (st : Start) (u : State) (source : u.Sourced st.source)
    (ready : (u.record st.target).isReady = true) : Runs u (startFallback st u) :=
  beginTransitionWith_runs u (fun r t x => failFallback_runs x r t) source ready

theorem handleFailure_runs {f : Failure} (source : s.Sourced f.source) : Runs s (handleFailure f s) :=
  handleFailureWith_runs s startFallback_runs source

theorem failTransition_runs (r : Reason) (t : Option Tower) : Runs s (failTransition r t s) :=
  failTransitionWith_runs s startFallback_runs _ _ _

theorem failVerify_runs (t : Tower) (v : Verdict) (d : Nat) : Runs s (failVerify t v d s) :=
  failTransitionWith_runs s startFallback_runs _ _ _

theorem beginTransition_runs {st : Start} (source : s.Sourced st.source) (ready : (s.record st.target).isReady = true) :
    Runs s (beginTransition st s) :=
  beginTransitionWith_runs s (fun r t x => failTransition_runs x r t) source ready

theorem failSteady_runs {p : Slot} (source : s.Sourced (some p)) (r : Reason) (t : Tower) : Runs s (failSteady p r t s) :=
  handleFailure_runs s source

theorem sourced_of_steady {s : State} {p : Slot} (array : s.shift.array = .steady p) : s.Sourced (some p) :=
  fun q hq => .inl (by simp only [State.markLive, array, beq_iff_eq]; exact Option.some.inj hq)

theorem towerLost_runs (t : Tower) (r : Reason) : Runs s (towerLost t r s) := by
  unfold towerLost
  split
  · dsimp only
    split
    · split
      · exact (zeroStart_runs _ _).trans (failTransition_runs _ _ _)
      · exact (zeroStart_runs _ _).trans ((leaveSwitchSet_runs _ _).trans (endSwitchIfDone_runs _))
    · exact zeroStart_runs _ _
  · exact .refl _

theorem towerUnusable_runs (t : Tower) (u : UnusableCause) : Runs s (towerUnusable t u s) := by
  unfold towerUnusable
  split
  · exact towerLost_runs _ _ _
  · next p array =>
    split
    · exact failSteady_runs _ (sourced_of_steady array) _ _
    · exact .refl _
  · exact .refl _

theorem towerLocked_runs (t : Tower) : Runs s (towerLocked t s) := by
  unfold towerLocked
  split
  · exact (zeroStart_runs _ _).trans ((leaveSwitchSet_runs _ _).trans (endSwitchIfDone_runs _))
  · exact .refl _

theorem moveRefused_runs (t : Tower) : Runs s (moveRefused t s) := by
  unfold moveRefused
  split
  · split
    · exact towerLost_runs _ _ _
    · exact .refl _
  · exact .refl _

theorem towerDrifts_runs (t : Tower) : Runs s (towerDrifts t s) := by
  unfold towerDrifts
  split
  · split
    · exact zeroStart_runs _ _
    · exact .refl _
  · exact .refl _

/-! ### The queue -/

theorem startRoutine_runs (o : Order) : Runs s (startRoutine o s) := by
  unfold startRoutine
  split
  · exact .refl _
  · next p _ =>
    split
    · exact raise_runs _ _
    · next ready =>
      split
      · exact raise_runs _ _
      · split
        · exact (raise_runs _ _).trans (setFlag_runs _ _)
        · refine beginTransition_runs _ ?_ (by simpa using ready)
          show s.Sourced (restingStart s.shift.array).1
          cases array : s.shift.array with
          | steady q => exact sourced_of_steady array
          | noPattern => exact sourced_none s
          | safe => exact sourced_none s
          | shifting c => exact sourced_none s

theorem examineFrom_runs (n : Nat) : Runs s (examineFrom n s) := by
  induction n generalizing s with
  | zero => exact .refl _
  | succ n ih =>
    unfold examineFrom
    split
    · exact .refl _
    · split
      · exact .refl _
      · next o rest queue =>
        have taken : Runs s (s.setQueue rest) := Write.runs (.shorten (queue ▸ (List.suffix_cons o rest).isInfix))
        dsimp only
        split
        · exact taken.trans ((discardOrder_runs _ _).trans (ih _))
        · exact taken.trans ((startRoutine_runs _ _).trans (ih _))

theorem examineQueue_runs : Runs s (examineQueue s) := examineFrom_runs s _

theorem offerAnswer_eq_entered {o : Order} (h : offerAnswer o s = .entered) : s.shift.queue.length < 4
    ∧ (s.shift.queue.getLast?.map fun x => x.target) ≠ some o.target := by
  unfold offerAnswer at h
  split at h
  · cases h
  · split at h
    · cases h
    · next tail =>
      split at h
      · cases h
      · next room => exact ⟨Nat.lt_of_not_le room, tail⟩

theorem offerOrder_runs {o : Order} {p : Slot} (routine : o.cause.isRoutine = true) (target : o.target = some p)
    (ready : (s.record p).isReady = true) : Runs s (offerOrder o s) := by
  unfold offerOrder
  split
  · next entered =>
    obtain ⟨room, tail⟩ := offerAnswer_eq_entered s entered
    exact (Write.runs (.enqueue routine target ready room tail)).trans (examineQueue_runs _)
  · exact .refl _

/-! ### The end of a transition -/

theorem setMonRecords_runs {r : Vector MonRecord 12}
    (legal : ∀ t : Tower, (s.monitor.records.get t).Legal → (r.get t).Legal) : Runs s (s.setMonRecords r) :=
  Write.runs (.elsewhere (by constructor <;> rfl)
    (fun ⟨buffer, portA, portB, link, saturation, records⟩ =>
      ⟨buffer, portA, portB, link, saturation, fun t => legal t (records t)⟩) id)

theorem MonRecord.untest_legal {r : MonRecord} (h : r.Legal) : r.untest.Legal := ⟨Nat.zero_le _, Nat.zero_le _, h.2.2⟩

/-- The duty is written before the other effects of a success, which do not read it. -/
theorem succeed_eq (c : Context) (p : Slot) : succeed c p s =
    examineQueue (
      let u := restartWindow ((raise (.shiftDone (some p) c.cause c.verifyUsed)
        (withdrawAll (stopTimer ((s.setArray (.steady p)).setDuty (.steady p))))).setFlag (c.cause == .fallback))
      if (u.record p).tested then u
      else u.setMonRecords (tab fun t => (u.monitor.records.get t).untest)) := rfl

theorem succeed_runs {b c : Context} {p : Slot} (array : s.shift.array = .shifting b) (verify : b.phase = .verify)
    (target : b.target = some p) : Runs s (succeed c p s) := by
  rw [succeed_eq]
  refine Relation.ReflTransGen.trans ?_ (examineQueue_runs _)
  have steady : Runs s (restartWindow ((raise (.shiftDone (some p) c.cause c.verifyUsed)
      (withdrawAll (stopTimer ((s.setArray (.steady p)).setDuty (.steady p))))).setFlag (c.cause == .fallback))) :=
    (Write.runs (.succeed array verify target)).trans ((Write.runs (.stopTimer _)).trans ((Write.runs (.withdraw _)).trans
      ((raise_runs _ _).trans ((setFlag_runs _ _).trans (restartWindow_runs _)))))
  dsimp only
  split
  · exact steady
  · refine steady.trans (setMonRecords_runs _ fun t legal => ?_)
    rw [get_tab]
    exact MonRecord.untest_legal legal

theorem setVerifyDuty_runs {c : Context} {p : Slot} (array : s.shift.array = .shifting c) (verify : c.phase = .verify)
    (target : c.target = some p) : Runs s (setVerifyDuty p s) :=
  (Write.runs (.verifyDuty array verify target)).trans (restartWindow_runs _)

theorem verifyAnswered_runs (a : VerifyAnswer) : Runs s (verifyAnswered a s) := by
  unfold verifyAnswered
  split
  · next c array =>
    split
    · next p verify target =>
      have counted : Runs s (s.setArray (.shifting { c with verifyUsed := c.verifyUsed + 1 })) :=
        Write.runs (.adjust array ⟨rfl, rfl, rfl, rfl, rfl, rfl, Nat.le_refl _⟩)
      dsimp only
      split
      · exact counted.trans (succeed_runs _ rfl verify target)
      · split
        · exact counted.trans (setVerifyDuty_runs _ rfl verify target)
        · exact counted.trans (failVerify_runs _ _ _ _)
    · exact .refl _
  · exact .refl _

theorem prior_resting (x : Prior) : x.resting = .safe ∨ x.resting = .noPattern := by
  cases x
  · exact .inr rfl
  · exact .inr rfl
  · exact .inl rfl

/-- The ramp step that ends a drop to zero, and what the end of one does (R77, R111). -/
theorem dropped_runs {c : Context} (d : Context) (array : s.shift.array = .shifting c) (ramp : c.phase = .drop ∨ c.phase = .cross)
    (last : c.stepTotal.getD 1 ≤ c.stepCount + 1) (target : c.target = none) {a : ArrayState} (rest : a = .safe ∨ a = .noPattern) :
    Runs s (stopTimer ((writeAllWeights (stepWeights c (c.stepCount + 1)) (s.setArray (.shifting d))).setArray a)) :=
  (Write.runs (.step array ramp (.rest last target rest))).trans (Write.runs (.stopTimer _))

theorem takeStep_runs : Runs s (takeStep s) := by
  unfold takeStep
  split
  · next c array =>
    split
    · next ramp =>
      dsimp only
      split
      · next last =>
        unfold rampEnded
        split
        · next target =>
          split
          · refine Relation.ReflTransGen.trans ?_ (examineQueue_runs _)
            unfold finishSafeDrop
            split
            · exact (dropped_runs s _ array ramp last target (.inl rfl)).trans (raise_runs _ _)
            · exact dropped_runs s _ array ramp last target (.inl rfl)
          · exact (dropped_runs s _ array ramp last target (prior_resting _)).trans ((Write.runs (.withdraw _)).trans
              ((raise_runs _ _).trans (examineQueue_runs _)))
        · next p target =>
          split
          · next cross =>
            unfold beginVerify
            have begun : Runs s (stopTimer ((writeAllWeights (stepWeights c (c.stepCount + 1))
                (s.setArray (.shifting c.stepped))).setArray (.shifting c.inVerify))) :=
              (Write.runs (.step array ramp (.verify last target cross))).trans (Write.runs (.stopTimer _))
            dsimp only
            split
            · exact begun.trans (setVerifyDuty_runs _ rfl rfl target)
            · exact begun.trans (succeed_runs _ rfl rfl target)
          · next notCross =>
            have drop : c.phase = .drop := ramp.resolve_right notCross
            exact (Write.runs (.step array ramp (.switch last target drop))).trans
              ((Write.runs (.stopTimer _)).trans (switch_runs _ (fun r t x => failTransition_runs x r t) p c.switchSet))
      · next more => exact Write.runs (.step array ramp (.on (Nat.lt_of_not_le more)))
    · exact .refl _
  · exact .refl _

theorem stepTimerExpired_runs : Runs s (stepTimerExpired s) := by
  unfold stepTimerExpired
  split
  · exact (Write.runs (.reload s)).trans (takeStep_runs _)
  · exact .refl _

theorem timeOutMoves_runs (p : Slot) (ts : List Tower) : Runs s (timeOutMoves p ts s) := by
  induction ts generalizing s with
  | nil => exact endSwitchIfDone_runs s
  | cons t ts ih =>
    unfold timeOutMoves
    split
    · exact ih _
    · split
      · exact failTransition_runs _ _ _
      · exact (leaveSwitchSet_runs _ _).trans (ih _)

theorem switchTimedOut_runs : Runs s (switchTimedOut s) := by
  unfold switchTimedOut
  split
  · split
    · split
      · exact timeOutMoves_runs _ _ _
      · exact .refl _
    · exact .refl _
  · exact .refl _

/-! ### Abort -/

/-- The context of an ABORT to zero (R77). -/
def zeroAbortContext (x : Prior) (o : Origin) (s : State) : Context :=
  { source := none, prior := x, target := none, cause := .abort, origin := some o, phase := .drop,
    switchSet := [], stepCount := 0, stepTotal := some s.settings.dropLength, startA := s.engine.live,
    endB := Vector.replicate 12 Cpx.zero, switchWait := 0, verifyUsed := 0, safeFor := none }

theorem abortToZero_eq (x : Prior) (o : Origin) : abortToZero x o s =
    (let u := startTimer (s.setArray (.shifting (zeroAbortContext x o s)))
    if u.allZero then finishAbort (zeroAbortContext x o s) u else u) := rfl

theorem abortToZero_runs (duty : s.monitor.duty = .none) (x : Prior) (o : Origin) : Runs s (abortToZero x o s) := by
  have cleared : s.setDuty .none = s := by rw [← duty]; rfl
  have entered := Write.enter (s := s) (c := zeroAbortContext x o s) (sourced_none s) (fun _ h => nomatch h)
    (begins_toZero s rfl rfl rfl rfl)
  rw [cleared] at entered
  have begun := entered.runs.trans (Write.runs (.startTimer _))
  rw [abortToZero_eq]
  dsimp only
  split
  · next zero =>
    exact begun.trans ((rest_runs rfl rfl zero (prior_resting _)).trans ((Write.runs (.withdraw _)).trans
      ((raise_runs _ _).trans (examineQueue_runs _))))
  · exact begun

theorem startAbort_runs {source : Option Slot} (sourced : s.Sourced source) (duty : s.monitor.duty = .none) (x : Prior)
    (o : Origin) : Runs s (startAbort source x o s) := by
  unfold startAbort
  split
  · exact abortToZero_runs s duty _ _
  · split
    · next usable => exact beginTransition_runs _ sourced (State.isReady_of_usable usable)
    · exact (raise_runs _ _).trans (handleFailure_runs _ sourced)

theorem abortTransition_runs {c : Context} (array : s.shift.array = .shifting c) (p : Port) :
    Runs s (abortTransition c p s) := by
  refine (endTransition_runs s).trans ((raise_runs _ _).trans ((makeRoomAtHead_runs _).trans (startAbort_runs _ ?_ ?_ _ _)))
  · exact sourced_of_shifting ((makeRoomAtHead_array _).trans array)
  · exact makeRoomAtHead_duty _

end Sys2Proof.Machine
end

section
/-! PROOFS. The monitor, the tower reports, the ports and the events of a tick as runs of single writes. -/

namespace Sys2Proof.Machine

variable (s : State)

/-! ### The Array Monitor -/

theorem monitorFailed_runs {p : Slot} (source : s.Sourced (some p)) (outs : List Tower) :
    Runs s (monitorFailed p outs s) := by
  unfold monitorFailed
  split
  · split
    · exact failSteady_runs _ source _ _
    · exact .refl _
  · exact .refl _

theorem nextSteadyWindow_runs : Runs s (nextSteadyWindow s) := by
  unfold nextSteadyWindow
  split
  · exact restartWindow_runs _
  · exact .refl _

theorem raises_duty {α : Type} (f : α → Notice) (xs : List α) :
    (xs.foldl (fun x a => raise (f a) x) s).monitor.duty = s.monitor.duty := by
  induction xs generalizing s with
  | nil => rfl
  | cons x xs ih => exact ih _

theorem countAfter_le {n : Nat} (h : n ≤ 15) (v : Verdict) : countAfter n v ≤ 15 := by
  unfold countAfter Config.failCountTop
  split
  · exact Nat.zero_le _
  · exact Nat.zero_le _
  · split <;> omega

theorem Window.judgeTested_deviation (w : Window) (e : TestEntry) : (w.judgeTested e).2 ≤ 255 := by
  unfold Window.judgeTested
  split
  · exact Nat.le_refl _
  · split
    · exact deviationOf_le _ _
    · exact Nat.le_refl _

theorem Window.judge_deviation (w : Window) (t : Tower) : (w.judge t).2 ≤ 255 := by
  unfold Window.judge
  split
  · split <;> decide
  · split
    · exact w.judgeTested_deviation _
    · exact Nat.zero_le _

theorem recordAfter_legal {t : Tower} (h : (s.monitor.records.get t).Legal) (w : Window) (steady : Bool) :
    (recordAfter s w steady t).Legal := by
  unfold recordAfter
  dsimp only
  split
  · exact ⟨w.judge_deviation t, countAfter_le h.2.1 _, by dsimp only; omega⟩
  · exact MonRecord.untest_legal h

theorem judged_runs (w : Window) (steady : Bool) : Runs s (s.setMonRecords (tab fun t => recordAfter s w steady t)) :=
  setMonRecords_runs s fun t h => by rw [get_tab]; exact recordAfter_legal s h w steady

theorem completeWindow_runs (w : Window) : Runs s (completeWindow w s) := by
  unfold completeWindow
  split
  · next p duty =>
    refine (judged_runs s w true).trans ((setWindow_runs _ _).trans ((raises_runs _ _ _).trans
      ((monitorFailed_runs _ ?_ _).trans (nextSteadyWindow_runs _))))
    exact fun q hq => .inr (.inr ((raises_duty _ _ _).trans (duty.trans (congrArg _ (Option.some.inj hq)))))
  · exact (judged_runs s w false).trans ((clearDuty_runs _).trans (verifyAnswered_runs _ _))

theorem phasorReport_runs (t : Tower) (z : Option Cpx) : Runs s (phasorReport t z s) := by
  unfold phasorReport
  split
  · split
    · dsimp only
      split
      · exact completeWindow_runs _ _
      · exact setWindow_runs _ _
    · exact .refl _
  · exact .refl _

theorem windowTimedOut_runs : Runs s (windowTimedOut s) := by
  unfold windowTimedOut
  split
  · split
    · exact completeWindow_runs _ _
    · exact .refl _
  · exact .refl _

/-! ### The causes of a tower -/

theorem Causes.any_of_has {c : Causes} {u : UnusableCause} (h : c.has u = true) : c.any = true := by
  cases u <;> simp only [Causes.has] at h <;> simp [Causes.any, h]

theorem Causes.jammed_add {c : Causes} (h : c.jammed = true) (u : UnusableCause) : (c.add u).jammed = true := by
  cases u <;> simp [Causes.add, h]

theorem dropHeldTarget_runs (t : Tower) : Runs s (dropHeldTarget t s) := by
  unfold dropHeldTarget
  split
  · exact setCommanded_runs _ _ _
  · exact .refl _

theorem forceZero_dropHeldTarget (t : Tower) : forceZero t (dropHeldTarget t s) = dropHeldTarget t (forceZero t s) := by
  unfold dropHeldTarget
  show _ = if (s.net t).state.isMoving then setCommanded t none (forceZero t s) else forceZero t s
  split <;> rfl

/-- A further cause of a tower that is unusable already. -/
theorem addCauses_runs {t : Tower} (unusable : (s.tower t).causes.any = true) (c : UnusableCause) :
    Runs s (s.setTower t { s.tower t with causes := (s.tower t).causes.add c }) :=
  Write.runs (.tower (fun _ => .inl (by simp [State.outOfService, State.unusable, unusable]))
    fun jammed => .inl (Causes.jammed_add jammed c))

/-- A cause added to a tower whose weight is forced to (0, 0) first. -/
theorem firstCause_runs (t : Tower) (c : UnusableCause) :
    Runs s ((forceZero t s).setTower t { s.tower t with causes := (s.tower t).causes.add c }) :=
  (Write.runs (.silence s t)).trans (Write.runs (.tower
    (fun _ => .inr (by rw [forceZero_live, if_pos rfl])) fun jammed => .inl (Causes.jammed_add jammed c)))

/-- A cause added after a write of the same tower's network record, which the new cause may be a guard of. -/
theorem addCause_setNet_runs {t : Tower} {c : UnusableCause} {r : NetRecord}
    (write : ∀ u : State, u.inArray t = s.inArray t → u.net t = s.net t → (u.tower t).causes.has c = true →
      Runs u (u.setNet t r)) : Runs s (addCause t c (s.setNet t r)) := by
  have has : ∀ x : Causes, (x.add c).has c = true := fun x => by cases c <;> rfl
  unfold addCause
  dsimp only
  split
  · next held => exact write s rfl rfl held
  · split
    · next unusable =>
      exact (addCauses_runs s unusable c).trans ((write (s.setTower t _) rfl rfl
        (by rw [setTower_tower, if_pos rfl]; exact has _)).trans (raise_runs _ _))
    · rw [forceZero_dropHeldTarget]
      exact (firstCause_runs s t c).trans ((write ((forceZero t s).setTower t _) rfl rfl (by rw [setTower_tower, if_pos rfl]; exact has _)).trans
        ((raise_runs _ _).trans ((dropHeldTarget_runs _ _).trans (towerUnusable_runs _ _ _))))

theorem addCause_runs (t : Tower) (c : UnusableCause) : Runs s (addCause t c s) := by
  unfold addCause
  dsimp only
  split
  · exact .refl _
  · split
    · next unusable => exact (addCauses_runs s unusable c).trans (raise_runs _ _)
    · rw [forceZero_dropHeldTarget]
      exact (firstCause_runs s t c).trans ((raise_runs _ _).trans ((dropHeldTarget_runs _ _).trans (towerUnusable_runs _ _ _)))

/-- A write of a tower entry that leaves its lockout and its causes. -/
theorem setTower_runs {t : Tower} {e : TowerEntry} (lockout : e.lockout = (s.tower t).lockout)
    (causes : e.causes = (s.tower t).causes) : Runs s (s.setTower t e) :=
  Write.runs (.tower (fun h => .inl (by rw [lockout, causes] at h; exact h)) fun h => .inl (by rw [causes]; exact h))

/-! ### Network reports -/

theorem not_unknown_of_moving {r : NetRecord} (h : r.state.isMoving = true) : r.state ≠ .unknown := by
  intro unknown
  rw [unknown] at h
  cases h

theorem travelTimedOut_runs (t : Tower) : Runs s (travelTimedOut t s) := by
  unfold travelTimedOut
  dsimp only
  split
  · next due =>
    have moving : (s.net t).state.isMoving = true := (Bool.and_eq_true_iff.mp due).1
    refine addCause_setNet_runs s fun u _ net held => Write.runs (.net (.inr (.inl ?_)) (fun _ => .inr held) fun h => nomatch h)
    rw [net]
    exact not_unknown_of_moving moving
  · exact .refl _

theorem silenceTimedOut_runs (t : Tower) : Runs s (silenceTimedOut t s) := by
  unfold silenceTimedOut
  dsimp only
  split
  · exact (setTower_runs s (t := t) (e := { s.tower t with silenceRunning := false, present := false }) rfl rfl).trans
      (addCause_runs _ _ _)
  · exact .refl _

theorem examineTarget_runs {t : Tower} (inside : s.inArray t = true) (r : Pos) : Runs s (examineTarget t r s) := by
  unfold examineTarget
  split
  · exact .refl _
  · split
    · exact setCommanded_runs _ _ _
    · split
      · next free =>
        simp only [Bool.and_eq_true, beq_iff_eq] at free
        exact startMove_runs _ _ _ inside free.2
      · exact (setCommanded_runs _ _ _).trans (moveRefused_runs _ _)

theorem settleReported_runs {t : Tower} (inside : s.inArray t = true) (r : Pos) : Runs s (settleReported t r s) :=
  (examineTarget_runs s inside r).trans (endSwitchIfDone_runs _)

theorem settleAt_runs {t : Tower} (inside : s.inArray t = true) (q : Pos) : Runs s (settleAt t q s) :=
  Write.runs (.net (.inl inside) (fun h => nomatch h) fun h => nomatch h)

theorem endMoveAt_runs {t : Tower} (inside : s.inArray t = true) (q : Pos) : Runs s (endMoveAt t q s) :=
  Write.runs (.net (.inl inside) (fun h => nomatch h) fun h => nomatch h)

theorem settledAnew_runs {t : Tower} (inside : s.inArray t = true) (r : Pos) : Runs s (settleReported t r (settleAt t r s)) :=
  (settleAt_runs s inside r).trans (settleReported_runs (settleAt t r s) inside r)

theorem moveCompleted_runs {t : Tower} (inside : s.inArray t = true) (q : Pos) : Runs s (moveCompleted t q s) := by
  unfold moveCompleted
  dsimp only
  have ended := endMoveAt_runs s inside q
  split
  · exact ended.trans ((raise_runs _ _).trans (settleReported_runs (raise _ (endMoveAt t q s)) inside q))
  · exact ended.trans (settleReported_runs (endMoveAt t q s) inside q)

theorem enterDrifting_runs {t : Tower} (inside : s.inArray t = true) : Runs s (enterDrifting t s) :=
  (Write.runs (.silence s t)).trans ((Write.runs (.net (s := forceZero t s) (r := { s.net t with state := .drifting })
    (.inl inside) (fun h => nomatch h) fun _ => .inl (by rw [forceZero_live, if_pos rfl]))).trans (towerDrifts_runs _ _))

theorem inArray_congr {s u : State} (h : SameOutside s u) (t : Tower) : u.inArray t = s.inArray t := by
  simp only [State.inArray, h.settings]

theorem networkReport_runs {t : Tower} (inside : s.inArray t = true) (report : NetReport) :
    Runs s (networkReport t report s) := by
  unfold networkReport
  split
  case h_1 => exact settledAnew_runs s inside _
  case h_2 => exact enterDrifting_runs s inside
  case h_3 =>
    split
    · exact .refl _
    · refine (settleAt_runs s inside _).trans ((Write.runs (.silence _ t)).trans ((addCause_runs _ _ _).trans
        (settleReported_runs _ ?_ _)))
      exact (inArray_congr (addCause_outside _ _ _) t).trans inside
  case h_4 => exact (enterDrifting_runs s inside).trans (addCause_runs _ _ _)
  case h_5 q start r _ =>
    split
    · exact moveCompleted_runs s inside _
    · split
      · exact .refl _
      · refine (endMoveAt_runs s inside _).trans ((addCause_runs _ _ _).trans (settleReported_runs _ ?_ _))
        exact (inArray_congr (addCause_outside _ _ _) t).trans inside
  case h_6 => exact .refl _
  case h_7 => exact settledAnew_runs s inside _
  case h_8 => exact .refl _
  case h_9 => exact settledAnew_runs s inside _
  case h_10 => exact .refl _

theorem paReport_runs (t : Tower) (fault : Bool) : Runs s (paReport t fault s) := by
  unfold paReport
  dsimp only
  split
  · exact (setTower_runs s (t := t) (e := { s.tower t with paFault := fault }) rfl rfl).trans (addCause_runs _ _ _)
  · exact setTower_runs s rfl rfl

theorem storeSlot_runs (t : Tower) (r : SlotReport) : Runs s (storeSlot t r s) := setTower_runs s rfl rfl

theorem returnSlot_runs (t : Tower) (slot : Option SlotReport) : Runs s (returnSlot t slot s) := by
  unfold returnSlot
  split
  · exact .refl _
  · next r =>
    split
    · next inside =>
      have heard := (setTower_outside s t _).trans (paReport_outside (storeSlot t r s) t r.paFault)
      exact (storeSlot_runs s t r).trans ((paReport_runs _ _ _).trans ((networkReport_runs _
        ((inArray_congr heard t).trans inside) _).trans (phasorReport_runs _ _ _)))
    · exact .refl _

theorem returnSlots_runs (slots : List (Tower × Option SlotReport)) :
    Runs s (slots.foldl (fun s x => returnSlot x.1 x.2 s) s) := by
  induction slots generalizing s with
  | nil => exact .refl _
  | cons x xs ih => exact (returnSlot_runs s _ _).trans (ih _)

theorem towerReturn_runs (bytes : List Byte) : Runs s (towerReturn bytes s) := by
  unfold towerReturn
  split
  · exact returnSlots_runs s _
  · exact Write.runs (.elsewhere (by constructor <;> rfl)
      (fun ⟨buffer, portA, portB, link, saturation, records⟩ =>
        ⟨buffer, portA, portB, bump_le link, saturation, records⟩) id)

end Sys2Proof.Machine
end

section
/-! PROOFS. The ports, the buffer, the clock and the requests as runs of single writes, and what an executed request
answers (R163, R164). -/

namespace Sys2Proof.Machine

variable (s : State)

/-! ### Ports and buffer -/

theorem setPort_runs {p : Port} {x : PortState} (legal : (s.port p).Legal → x.Legal) : Runs s (s.setPort p x) := by
  cases p with
  | A => exact Write.runs (.elsewhere (by constructor <;> rfl)
      (fun ⟨buffer, portA, rest⟩ => ⟨buffer, legal portA, rest⟩) id)
  | B => exact Write.runs (.elsewhere (by constructor <;> rfl)
      (fun ⟨buffer, portA, portB, rest⟩ => ⟨buffer, portA, legal portB, rest⟩) id)

theorem setBuffer_runs {b : Buffer} (legal : s.buffer.Legal → b.Legal) : Runs s (s.setBuffer b) :=
  Write.runs (.elsewhere (by constructor <;> rfl) (fun ⟨buffer, rest⟩ => ⟨legal buffer, rest⟩) id)

theorem overrun_runs (p : Port) : Runs s (overrun p s) :=
  setPort_runs s fun ⟨age, errors, discarded, overruns⟩ => ⟨age, errors, discarded, bump_le overruns⟩

theorem placeReply_runs (p : Port) (code tag : Byte) (r : Reply) : Runs s (placeReply p code tag r s) := setPort_runs s id

theorem setAssembly_runs (p : Port) (a : Assembly) : Runs s (setAssembly p a s) := setPort_runs s id

theorem badRequest_runs (p : Port) (code tag : Byte) : Runs s (badRequest p code tag s) := by
  unfold badRequest
  split
  · exact overrun_runs _ _
  · exact placeReply_runs _ _ _ _ _

theorem abandonRequest_runs (p : Port) : Runs s (abandonRequest p s) := by
  unfold abandonRequest
  split
  · exact .refl _
  · exact (setAssembly_runs _ _ _).trans (badRequest_runs _ _ _ _)

theorem discardFrame_runs (p : Port) : Runs s (discardFrame p s) :=
  setPort_runs s fun ⟨age, errors, rest⟩ => ⟨age, bump_le errors, rest⟩

theorem discardSample_runs (p : Port) : Runs s (discardSample p s) :=
  setPort_runs s fun ⟨age, errors, discarded, overruns⟩ => ⟨age, errors, bump_le discarded, overruns⟩

theorem Buffer.push_legal {b : Buffer} (h : b.Legal) (x : Cpx) : (b.push x).Legal := by
  obtain ⟨depth, priming, underruns, overruns⟩ := h
  unfold Buffer.push Config.bufferDepth Config.primingDepth
  split
  · exact ⟨depth, priming, underruns, bump_le overruns⟩
  · refine ⟨by simp only [List.length_append, List.length_singleton]; omega, fun state => ?_, underruns, overruns⟩
    simp only [List.length_append, List.length_singleton]
    split at state
    · cases state
    · next short => have := priming state; omega

theorem Buffer.flush_legal {b : Buffer} (h : b.Legal) : b.flush.Legal :=
  ⟨Nat.zero_le _, fun _ => Nat.zero_lt_succ _, h.2.2⟩

theorem Buffer.take_legal {b : Buffer} (h : b.Legal) : b.take.Legal := by
  unfold Buffer.take
  split
  · exact h
  · next state fifo =>
    obtain ⟨depth, _, counters⟩ := h
    rw [fifo, List.length_cons] at depth
    exact ⟨Nat.le_of_succ_le depth, fun (priming : b.state = .priming) =>
      absurd (state.symm.trans priming) (by decide), counters⟩
  · obtain ⟨depth, priming, underruns, overruns⟩ := h
    exact ⟨depth, priming, bump_le underruns, overruns⟩

theorem pushSample_runs (x : Cpx) : Runs s (pushSample x s) := setBuffer_runs s fun h => Buffer.push_legal h x

theorem flushBuffer_runs : Runs s (flushBuffer s) := setBuffer_runs s Buffer.flush_legal

theorem changeover_runs (p : Port) : Runs s (changeover p s) :=
  (setSelector_runs s _).trans ((flushBuffer_runs _).trans (raise_runs _ _))

theorem takeover_runs : Runs s (takeover s) := by
  unfold takeover
  split
  · exact changeover_runs _ _
  · exact .refl _

theorem ownerSample_runs (x : Cpx) : Runs s (ownerSample x s) := (setSelector_runs s _).trans (pushSample_runs _ _)

theorem selectorSample_runs (p : Port) (x : Cpx) (claim : Bool) : Runs s (selectorSample p x claim s) := by
  unfold selectorSample
  split
  · exact ownerSample_runs _ _
  · split
    · exact (changeover_runs _ _).trans (ownerSample_runs _ _)
    · split
      · exact (setPort_runs (x := { s.port p with barred := true }) s id).trans
          ((raise_runs _ _).trans (discardSample_runs _ _))
      · exact discardSample_runs _ _

theorem sampleTaken_runs (p : Port) (x : Cpx) (claim : Bool) : Runs s (sampleTaken p x claim s) :=
  (setPort_runs (x := { s.port p with age := 0, present := true }) s fun ⟨_, rest⟩ => ⟨Nat.zero_le _, rest⟩).trans
    (selectorSample_runs _ _ _ _)

theorem holdoverExpired_runs (p : Port) : Runs s (holdoverExpired p s) := by
  unfold holdoverExpired
  split
  · exact setPort_runs s id
  · exact .refl _

theorem ownerLost_runs : Runs s (ownerLost s) := by
  unfold ownerLost
  split
  · dsimp only
    split
    · exact (setSelector_runs s _).trans (takeover_runs _)
    · exact (setSelector_runs s _).trans (raise_runs _ _)
  · exact .refl _

/-! ### The clock, the schedule and the contact lines -/

/-- The ranges of the clock. -/
abbrev Timebase.Legal (b : Timebase) : Prop := b.second ≤ 86399 ∧ b.subsecond ≤ 999

/-- The order and the ranges of the Schedule Table. -/
abbrev Schedule.Legal (x : Schedule) : Prop :=
  x.entries.length ≤ 24 ∧ x.entries.Pairwise (fun a b => a.time < b.time) ∧ ∀ e ∈ x.entries, e.time ≤ 86399 ∧ e.days ≠ 0

theorem setTimebase_runs {b : Timebase} (legal : s.timebase.Legal → b.Legal) : Runs s (s.setTimebase b) :=
  Write.runs (.elsewhere (by constructor <;> rfl) id fun ⟨second, subsecond, schedule⟩ =>
    ⟨(legal ⟨second, subsecond⟩).1, (legal ⟨second, subsecond⟩).2, schedule⟩)

theorem setSchedule_runs {x : Schedule} (legal : s.schedule.Legal → x.Legal) : Runs s (s.setSchedule x) :=
  Write.runs (.elsewhere (by constructor <;> rfl) id fun ⟨second, subsecond, schedule⟩ =>
    ⟨second, subsecond, legal schedule⟩)

theorem Timebase.advanced_legal {b : Timebase} (h : b.Legal) : b.advanced.Legal := by
  unfold Timebase.advanced
  split
  · exact ⟨Nat.zero_le _, Nat.zero_le _⟩
  · next notLast =>
    have bound := h.1
    exact ⟨by dsimp only; omega, Nat.zero_le _⟩

theorem ready_of_skipReason {e : ScheduleEntry} (h : skipReason e s = none) : (s.record e.pattern).isReady = true := by
  unfold skipReason at h
  split at h
  · cases h
  · split at h
    · cases h
    · split at h
      · cases h
      · next ready => simpa using ready

theorem fireEntry_runs (e : ScheduleEntry) : Runs s (fireEntry e s) := by
  unfold fireEntry
  split
  · exact raise_runs _ _
  · next offered => exact offerOrder_runs s rfl rfl (ready_of_skipReason s offered)

theorem secondReached_runs : Runs s (secondReached s) := by
  unfold secondReached
  split
  · dsimp only
    have advanced : Runs s (s.setTimebase s.timebase.advanced) := setTimebase_runs s Timebase.advanced_legal
    split
    · exact advanced.trans (fireEntry_runs _ _)
    · exact advanced
  · exact .refl _

theorem contactOrder_runs (l : Line) (p : Slot) : Runs s (contactOrder l p s) := by
  unfold contactOrder
  dsimp only
  split
  · exact discardOrder_runs _ _
  · next free =>
    simp only [Bool.or_eq_true, Bool.not_eq_true', not_or, Bool.not_eq_false] at free
    split
    · exact discardOrder_runs _ _
    · exact offerOrder_runs s rfl rfl free.2

theorem contactAction_runs (l : Line) (before : Bool) : Runs s (contactAction l before s) := by
  unfold contactAction
  split
  · exact .refl _
  · split
    · exact contactOrder_runs _ _ _
    · exact .refl _
  · split
    · exact contactOrder_runs _ _ _
    · exact contactOrder_runs _ _ _
  · exact muteChanged_runs _ _

theorem contactChanged_runs (l : Line) : Runs s (contactChanged l s) := by
  unfold contactChanged
  dsimp only
  split
  · exact (setLine_runs _ _ _).trans (contactAction_runs _ _ _)
  · exact .refl _

theorem runEvent_runs (e : TickEvent) : Runs s (runEvent e s) := by
  cases e with
  | stepTimer => exact stepTimerExpired_runs s
  | switchWait => exact switchTimedOut_runs s
  | travel t => exact travelTimedOut_runs s t
  | silence t => exact silenceTimedOut_runs s t
  | windowLimit => exact windowTimedOut_runs s
  | holdover p => exact holdoverExpired_runs s p
  | ownerLoss => exact ownerLost_runs s
  | second => exact secondReached_runs s
  | contact l => exact contactChanged_runs s l

theorem runEvents_runs (es : List TickEvent) : Runs s (es.foldl (fun s e => runEvent e s) s) := by
  induction es generalizing s with
  | nil => exact .refl _
  | cons e es ih => exact (runEvent_runs s e).trans (ih _)

theorem settle_runs : Runs s (settle s) := (setDue_runs s _).trans (runEvents_runs _ _)

theorem takeDue_runs (e : TickEvent) : Runs s (takeDue e s) := by
  unfold takeDue
  split
  · exact (setDue_runs s _).trans (runEvent_runs _ _)
  · exact .refl _

/-! ### The frame timer -/

theorem emitDrive_runs : Runs s (emitDrive s) := by
  have counted : Runs s
      { s with
        engine := { s.engine with
          saturation := tab fun t =>
            if s.clamps s.buffer.held t then bump (s.engine.saturation.get t) else s.engine.saturation.get t }
        link := { s.link with driveFrame := driveFrameBytes (driveSlot s s.buffer.held) } } := by
    refine Write.runs (.elsewhere (by constructor <;> rfl) (fun ⟨buffer, portA, portB, link, saturation, records⟩ =>
      ⟨buffer, portA, portB, link, fun t => ?_, records⟩) id)
    rw [get_tab]
    split
    · exact bump_le (saturation t)
    · exact saturation t
  unfold emitDrive
  dsimp only
  split
  · exact counted.trans (raise_runs _ _)
  · exact counted

theorem portContent_runs (p : Port) : Runs s (portContent p s).1 := by
  unfold portContent
  split
  · exact setPort_runs s id
  · split
    · split
      · split
        · exact setNoticeSource_runs _ _ _
        · exact .refl _
      · exact .refl _
    · exact .refl _

theorem storeReturn_runs (p : Port) (bs : List Byte) : Runs s (storeReturn p bs s) := setPort_runs s id

theorem sendReturns_runs : Runs s (sendReturns s) :=
  (portContent_runs s .A).trans ((portContent_runs _ .B).trans ((storeReturn_runs _ _ _).trans (storeReturn_runs _ _ _)))

theorem frameExpiry_runs : Runs s (frameExpiry s) :=
  (setBuffer_runs s Buffer.take_legal).trans ((emitDrive_runs _).trans ((sendReturns_runs _).trans (setTimebase_runs _ id)))

end Sys2Proof.Machine
end

section
/-! PROOFS. Every request, as what it answers and as the run of writes that it makes (R163, R164). -/

namespace Sys2Proof.Machine

/-! ### What an executed request answers -/

/-- An executed request makes a run of writes, and a refused one changes nothing; only CHECK_FAILED with CAP_EXCEEDED
comes with values (R164). -/
structure Executed (s : State) (x : State × Reply) : Prop where
  run : Runs s x.1
  refusal : x.2.code ≠ .ok → x.2.code ≠ .accepted →
    x.1 = s ∧ (x.2.values ≠ [] → x.2.code = .checkFailed ∧ x.2.reason = some .capExceeded)

theorem Executed.refused (s : State) (code : ReplyCode) : Executed s (refused code s) :=
  ⟨.refl s, fun _ _ => ⟨rfl, fun h => absurd rfl h⟩⟩

theorem Executed.answered {s t : State} (run : Runs s t) (values : List Byte) : Executed s (answered t values) :=
  ⟨run, fun h => absurd rfl h⟩

theorem Executed.checkFailed (s : State) (r : Reason) : Executed s (s, checkFailed r []) :=
  ⟨.refl s, fun _ _ => ⟨rfl, fun h => absurd rfl h⟩⟩

theorem Executed.capExceeded (s : State) (values : List Byte) : Executed s (s, Machine.checkFailed .capExceeded values) :=
  ⟨.refl s, fun _ _ => ⟨rfl, fun _ => ⟨rfl, rfl⟩⟩⟩

variable (s : State)

/-! ### Patterns -/

theorem Header.default_legal : Header.default.Legal := by decide

theorem clampTrim_natAbs_le (limit : Nat) (x : Int) : (clampTrim limit x).natAbs ≤ limit := by
  unfold clampTrim clampInt
  split
  · omega
  · split <;> omega

theorem Entry.clamped_legal {n limit : Nat} {g h : Header} {e : Entry} (legal : e.Legal n g) (trimLimit : h.trimLimit = limit) :
    (e.clamped limit).Legal n h := by
  obtain ⟨tower, re, im, xre, xim, tolerance, _⟩ := legal
  subst trimLimit
  exact ⟨tower, re, im, xre, xim, tolerance, clampTrim_natAbs_le _ _, clampTrim_natAbs_le _ _⟩

theorem mem_putEntry {e x : Entry} {es : List Entry} (h : x ∈ putEntry e es) : x = e ∨ x ∈ es := by
  induction es with
  | nil => exact .inl (List.mem_singleton.mp h)
  | cons y ys ih =>
    unfold putEntry at h
    split at h
    · rcases List.mem_cons.mp h with rfl | h
      · exact .inl rfl
      · exact .inr (List.mem_cons_of_mem _ h)
    · split at h
      · exact List.mem_cons.mp h
      · rcases List.mem_cons.mp h with rfl | h
        · exact .inr List.mem_cons_self
        · rcases ih h with rfl | h
          · exact .inl rfl
          · exact .inr (List.mem_cons_of_mem _ h)

theorem putEntry_pairwise {e : Entry} {es : List Entry} (sorted : es.Pairwise fun a b => a.tower < b.tower) :
    (putEntry e es).Pairwise fun a b => a.tower < b.tower := by
  induction es with
  | nil => exact List.pairwise_singleton _ _
  | cons y ys ih =>
    obtain ⟨below, rest⟩ := List.pairwise_cons.mp sorted
    unfold putEntry
    split
    · next same => exact List.pairwise_cons.mpr ⟨fun x hx => same ▸ below x hx, rest⟩
    · next other =>
      split
      · next before =>
        refine List.pairwise_cons.mpr ⟨fun x hx => ?_, sorted⟩
        rcases List.mem_cons.mp hx with rfl | hx
        · exact before
        · exact before.trans (below x hx)
      · next notBefore =>
        refine List.pairwise_cons.mpr ⟨fun x hx => ?_, ih rest⟩
        rcases mem_putEntry hx with rfl | hx
        · exact lt_of_le_of_ne (not_lt.mp notBefore) other
        · exact below x hx

theorem towerOf_filter_inArray {t : Tower} {b : Byte} (h : arrayTower s b = some t) : s.inArray t = true :=
  (Option.filter_eq_some_iff.mp h).2

theorem signed16_bounds {n : Nat} (small : n < 65536) (notLowest : signed16 n ≠ -32768) : InWeight (signed16 n) := by
  unfold signed16 at *
  split at notLowest <;> split <;> constructor <;> omega

theorem headerOperands_legal {p : Slot} {reference park : Byte} {cap ramp trimLimit : Half} {fallback option : Byte}
    {h : Header} (operands : headerOperands s p reference park cap ramp trimLimit fallback option = some h) : h.Legal := by
  simp only [headerOperands, Option.bind_eq_bind, Option.bind_eq_some_iff] at operands
  obtain ⟨_, _, _, _, _, _, _, _, built⟩ := operands
  split at built
  · next ranges =>
    cases built
    have := cap.isLt
    exact ⟨by dsimp only; omega, ⟨ranges.1, ranges.2.1⟩, ranges.2.2⟩
  · cases built

theorem entryOperands_legal {tower : Byte} {wr wi : Half} {position : Byte} {xr xi : Half} {tolerance : Byte} {e : Entry}
    (operands : entryOperands s tower wr wi position xr xi tolerance = some e) (h : Header) :
    e.Legal s.settings.arraySize h := by
  simp only [entryOperands, Option.bind_eq_bind, Option.bind_eq_some_iff] at operands
  obtain ⟨t, inside, k, _, built⟩ := operands
  split at built
  · cases built
  · next ranges =>
    cases built
    simp only [not_or] at ranges
    obtain ⟨re, im, xre, xim⟩ := ranges
    have tolerated := tolerance.isLt
    exact ⟨of_decide_eq_true (towerOf_filter_inArray s inside), signed16_bounds wr.isLt re, signed16_bounds wi.isLt im,
      signed16_bounds xr.isLt xre, signed16_bounds xi.isLt xim, by dsimp only; omega, Nat.zero_le _, Nat.zero_le _⟩

theorem PatternRecord.empty_legal (n : Nat) : PatternRecord.empty.Legal n := fun _ h => nomatch h

/-- A change of a record that no pattern in use has, to a record that is not READY. -/
theorem setRecord_runs {p : Slot} {r : PatternRecord} (legal : s.EntriesLaw → r.Legal s.settings.arraySize)
    (unused : (s.record p).isReady = true → s.inUse p = false) (notReady : r.isReady = false) : Runs s (s.setRecord p r) :=
  Write.runs (.record legal unused fun ready => absurd (notReady.symm.trans ready) (by decide))

theorem not_ready_of_opened {p : Slot} {h : Header} {es : List Entry} (old : s.record p = .opened h es)
    (ready : (s.record p).isReady = true) : s.inUse p = false := by rw [old] at ready; cases ready

/-- A change of a record that is OPEN and stays so. -/
theorem editRecord_runs {p : Slot} {h g : Header} {es fs : List Entry} (old : s.record p = .opened h es)
    (legal : (PatternRecord.opened h es).Legal s.settings.arraySize → (PatternRecord.opened g fs).Legal s.settings.arraySize) :
    Runs s (s.setRecord p (.opened g fs)) :=
  setRecord_runs s (fun law => legal (old ▸ law p)) (not_ready_of_opened s old) rfl

theorem PatternRecord.opened_legal {n : Nat} {h : Header} {es : List Entry} : (PatternRecord.opened h es).Legal n ↔
    h.Legal ∧ es.Pairwise (fun a b => a.tower < b.tower) ∧ ∀ e ∈ es, e.Legal n h :=
  ⟨fun legal => legal h rfl, fun legal _ hg => Option.some.inj hg ▸ legal⟩

theorem PatternRecord.ready_legal {n : Nat} {h : Header} {es : List Entry} : (PatternRecord.ready h es).Legal n ↔
    h.Legal ∧ es.Pairwise (fun a b => a.tower < b.tower) ∧ ∀ e ∈ es, e.Legal n h :=
  ⟨fun legal => legal h rfl, fun legal _ hg => Option.some.inj hg ▸ legal⟩

theorem reqPatternOpen_executed (pattern : Byte) : Executed s (reqPatternOpen pattern s) := by
  unfold reqPatternOpen
  split
  · exact .refused _ _
  · next p _ =>
    split
    · next old =>
      have legal : (PatternRecord.opened Header.default []).Legal s.settings.arraySize :=
        PatternRecord.opened_legal.mpr ⟨Header.default_legal, .nil, fun _ h => nomatch h⟩
      exact .answered (setRecord_runs s (fun _ => legal) (fun ready => by rw [old] at ready; cases ready) rfl) _
    · exact .answered (.refl _) _
    · next h es old =>
      split
      · exact .refused _ _
      · next unused =>
        refine .answered (setRecord_runs s (fun law => ?_) (fun _ => by simpa using unused) rfl) _
        exact PatternRecord.opened_legal.mpr (PatternRecord.ready_legal.mp (old ▸ law p))

theorem reqPatternHeader_executed (pattern reference park : Byte) (cap ramp trimLimit : Half) (fallback option : Byte) :
    Executed s (reqPatternHeader pattern reference park cap ramp trimLimit fallback option s) := by
  unfold reqPatternHeader
  split
  · exact .refused _ _
  · next p _ =>
    split
    · next g es old =>
      split
      · exact .refused _ _
      · next h operands =>
        refine .answered (editRecord_runs s old fun legal => ?_) _
        obtain ⟨_, sorted, entries⟩ := PatternRecord.opened_legal.mp legal
        refine PatternRecord.opened_legal.mpr ⟨headerOperands_legal s operands, List.pairwise_map.mpr sorted, fun e he => ?_⟩
        obtain ⟨x, hx, rfl⟩ := List.mem_map.mp he
        exact Entry.clamped_legal (entries x hx) rfl
    · exact .refused _ _

theorem reqTowerEntry_executed (pattern tower : Byte) (wr wi : Half) (position : Byte) (xr xi : Half) (tolerance : Byte) :
    Executed s (reqTowerEntry pattern tower wr wi position xr xi tolerance s) := by
  unfold reqTowerEntry
  split
  · exact .refused _ _
  · split
    · next h es old =>
      split
      · exact .refused _ _
      · next e operands =>
        refine .answered (editRecord_runs s old fun legal => ?_) _
        obtain ⟨header, sorted, entries⟩ := PatternRecord.opened_legal.mp legal
        refine PatternRecord.opened_legal.mpr ⟨header, putEntry_pairwise sorted, fun x hx => ?_⟩
        rcases mem_putEntry hx with rfl | hx
        · exact entryOperands_legal s operands h
        · exact entries x hx
    · exact .refused _ _

theorem reqTowerEntryRemove_executed (pattern tower : Byte) : Executed s (reqTowerEntryRemove pattern tower s) := by
  unfold reqTowerEntryRemove
  split
  · exact .refused _ _
  · split
    · next h es old =>
      split
      · exact .refused _ _
      · split
        · exact .refused _ _
        · refine .answered (editRecord_runs s old fun legal => ?_) _
          obtain ⟨header, sorted, entries⟩ := PatternRecord.opened_legal.mp legal
          exact PatternRecord.opened_legal.mpr ⟨header, sorted.filter _, fun x hx => entries x (List.mem_of_mem_filter hx)⟩
    · exact .refused _ _

theorem le_of_withinCap {power cap : Nat} (h : ¬withinCap power cap = false) : power ≤ cap * 65536 :=
  of_decide_eq_true (Bool.eq_true_of_not_eq_false h)

/-- A record that passes the five checks meets the law of READY records (R11). -/
theorem readyLegal_of_closeCheck {ceiling : Nat} {h : Header} {es : List Entry} (passed : closeCheck ceiling h es = none) :
    (PatternRecord.ready h es).ReadyLegal ceiling := by
  unfold closeCheck at passed
  intro _ g hg
  cases hg
  split at passed
  · cases passed
  split at passed
  · cases passed
  next t reference =>
  split at passed
  · cases passed
  next entry =>
  split at passed
  · cases passed
  split at passed
  · cases passed
  next below =>
  split at passed
  · cases passed
  next cap =>
  refine ⟨⟨t, reference, ?_⟩, Nat.le_of_not_lt below, le_of_withinCap cap⟩
  cases found : entryFor es t with
  | some e => exact congrArg Option.isSome found
  | none => rw [found] at entry; exact absurd rfl entry

theorem reqPatternClose_executed (pattern : Byte) : Executed s (reqPatternClose pattern s) := by
  unfold reqPatternClose
  split
  · exact .refused _ _
  · next p _ =>
    split
    · next h es old =>
      split
      · next passed =>
        refine .answered (Write.runs (.record (fun law => ?_) (not_ready_of_opened s old)
          fun _ => readyLegal_of_closeCheck passed)) _
        exact PatternRecord.ready_legal.mpr (PatternRecord.opened_legal.mp (old ▸ law p))
      · exact .capExceeded _ _
      · exact .checkFailed _ _
    · exact .refused _ _

theorem reqPatternErase_executed (pattern : Byte) : Executed s (reqPatternErase pattern s) := by
  unfold reqPatternErase
  split
  · exact .refused _ _
  · split
    · exact .refused _ _
    · next unused =>
      exact .answered (setRecord_runs s (fun _ => PatternRecord.empty_legal _) (fun _ => by simpa using unused) rfl) _

theorem reqPatternRead_executed (pattern item : Byte) : Executed s (reqPatternRead pattern item s) := by
  unfold reqPatternRead
  split
  · exact .refused _ _
  · split
    · exact .answered (.refl _) _
    · split
      · exact .answered (.refl _) _
      · exact .refused _ _

theorem mem_of_entryFor {es : List Entry} {t : Tower} {e : Entry} (h : entryFor es t = some e) : e ∈ es ∧ e.tower = t :=
  ⟨List.mem_of_find?_eq_some h, by simpa using List.find?_some h⟩

theorem reqWeightTrim_executed (pattern tower : Byte) (dr di : Half) : Executed s (reqWeightTrim pattern tower dr di s) := by
  unfold reqWeightTrim
  split
  · exact .refused _ _
  · next p _ =>
    split
    · next h es old =>
      split
      · exact .refused _ _
      · next t _ =>
        split
        · exact .refused _ _
        · next e found =>
          split
          · exact .refused _ _
          · next free =>
            dsimp only
            split
            · next cap =>
              exact .answered (Write.runs (.trim old (mem_of_entryFor found).1 (by simpa using free)
                (of_decide_eq_true cap))) _
            · exact .capExceeded _ _
    · exact .refused _ _

/-! ### The array -/

theorem reqShift_executed (p : Port) (pattern : Byte) : Executed s (reqShift p pattern s) := by
  unfold reqShift
  split
  · exact .refused _ _
  · next q _ =>
    split
    · exact .refused _ _
    · next ready =>
      split
      · exact .refused _ _
      · dsimp only
        split
        · exact .refused _ _
        · exact ⟨offerOrder_runs s rfl rfl (by simpa using ready), fun _ h => absurd rfl h⟩

theorem reqShiftCancel_executed : Executed s (reqShiftCancel s) := .answered (Write.runs (.cancel s)) _

theorem reqAbort_executed (p : Port) : Executed s (reqAbort p s) := by
  unfold reqAbort
  split
  · next c array =>
    split
    · exact .refused _ _
    · exact .answered (abortTransition_runs s array p) _
  · exact .refused _ _

theorem lockOut_runs (t : Tower) : Runs s (lockOut t s) := by
  have locked : Runs s ((forceZero t s).setTower t { s.tower t with lockout := true }) :=
    (Write.runs (.silence s t)).trans (Write.runs (.tower (fun _ => .inr (by rw [forceZero_live, if_pos rfl])) .inl))
  exact locked.trans (towerLocked_runs _ _)

theorem reqTowerLockout_executed (tower value : Byte) : Executed s (reqTowerLockout tower value s) := by
  unfold reqTowerLockout
  split
  · exact .refused _ _
  · next t _ =>
    dsimp only
    split
    · exact .refused _ _
    · refine .answered (Write.runs (.tower (e := { s.tower t with lockout := false }) (fun unusable => .inl ?_) .inl)) _
      have unusable : (s.tower t).causes.any = true := unusable
      simp [State.outOfService, State.unusable, unusable]
    · split
      · exact .refused _ _
      · split
        · exact .refused _ _
        · split
          · exact .answered (.refl _) _
          · exact .answered (lockOut_runs s t) _

theorem reqTowerRestore_executed (tower : Byte) : Executed s (reqTowerRestore tower s) := by
  unfold reqTowerRestore
  split
  · exact .refused _ _
  · next t _ =>
    dsimp only
    split
    · exact .refused _ _
    · next accepted =>
      simp only [Bool.or_eq_true, Bool.not_eq_true', not_or, Bool.not_eq_false] at accepted
      refine .answered (Write.runs (.tower (fun lockout => .inl ?_) fun _ => .inr accepted.2)) _
      have locked : (s.tower t).lockout = true := by simpa [Causes.any, Causes.none] using lockout
      simp [State.outOfService, locked]

theorem reqTowerStatus_executed (tower : Byte) : Executed s (reqTowerStatus tower s) := by
  unfold reqTowerStatus
  split
  · exact .refused _ _
  · exact .answered (.refl _) _

/-! ### The clock and the schedule -/

theorem reqTimeSet_executed (second : Triple) (weekday : Byte) : Executed s (reqTimeSet second weekday s) := by
  unfold reqTimeSet
  split
  · exact .refused _ _
  · split
    · exact .refused _ _
    · next range => exact .answered (setTimebase_runs s fun _ => ⟨Nat.le_of_not_lt range, Nat.zero_le _⟩) _

theorem mem_insertByTime {e x : ScheduleEntry} {es : List ScheduleEntry} : x ∈ insertByTime e es ↔ x = e ∨ x ∈ es := by
  induction es with
  | nil => simp [insertByTime]
  | cons y ys ih =>
    unfold insertByTime
    split
    · exact List.mem_cons
    · rw [List.mem_cons, ih, List.mem_cons]
      tauto

theorem insertByTime_length (e : ScheduleEntry) (es : List ScheduleEntry) : (insertByTime e es).length = es.length + 1 := by
  induction es with
  | nil => rfl
  | cons y ys ih =>
    unfold insertByTime
    split
    · rfl
    · rw [List.length_cons, ih, List.length_cons]

theorem insertByTime_pairwise {e : ScheduleEntry} {es : List ScheduleEntry} (sorted : es.Pairwise fun a b => a.time < b.time)
    (new : ∀ x ∈ es, x.time ≠ e.time) : (insertByTime e es).Pairwise fun a b => a.time < b.time := by
  induction es with
  | nil => exact List.pairwise_singleton _ _
  | cons y ys ih =>
    obtain ⟨below, rest⟩ := List.pairwise_cons.mp sorted
    unfold insertByTime
    split
    · next before =>
      refine List.pairwise_cons.mpr ⟨fun x hx => ?_, sorted⟩
      rcases List.mem_cons.mp hx with rfl | hx
      · exact before
      · exact before.trans (below x hx)
    · next notBefore =>
      refine List.pairwise_cons.mpr ⟨fun x hx => ?_, ih rest fun x hx => new x (List.mem_cons_of_mem _ hx)⟩
      rcases mem_insertByTime.mp hx with rfl | hx
      · have := new y List.mem_cons_self; omega
      · exact below x hx

theorem scheduleOperands_legal {time : Triple} {weekdays pattern : Byte} {e : ScheduleEntry}
    (operands : scheduleOperands time weekdays pattern = some e) : e.time ≤ 86399 ∧ e.days ≠ 0 := by
  unfold scheduleOperands at operands
  split at operands
  · cases operands
  · next ranges =>
    simp only [not_or] at ranges
    obtain ⟨second, days, high⟩ := ranges
    obtain ⟨p, _, rfl⟩ := Option.map_eq_some_iff.mp operands
    refine ⟨Nat.le_of_not_lt second, fun none => days ?_⟩
    have low : weekdays.toNat % 128 = 0 := by simpa using congrArg BitVec.toNat none
    have top : weekdays.toNat / 128 % 2 ≠ 1 := by simpa [BitVec.getLsbD, Nat.testBit_eq_decide_div_mod_eq] using high
    have bound := weekdays.isLt
    exact BitVec.eq_of_toNat_eq (show weekdays.toNat = 0 by omega)

theorem reqScheduleAdd_executed (time : Triple) (weekdays pattern : Byte) :
    Executed s (reqScheduleAdd time weekdays pattern s) := by
  unfold reqScheduleAdd
  split
  · exact .refused _ _
  · next e operands =>
    dsimp only
    split
    · exact .refused _ _
    · next unique =>
      split
      · exact .refused _ _
      · next room =>
        refine .answered (setSchedule_runs s fun ⟨_, sorted, entries⟩ => ⟨?_, ?_, fun x hx => ?_⟩) _
        · rw [insertByTime_length]; unfold Config.scheduleDepth at room; omega
        · exact insertByTime_pairwise sorted (by simpa using unique)
        · rcases mem_insertByTime.mp hx with rfl | hx
          · exact scheduleOperands_legal operands
          · exact entries x hx

theorem reqScheduleDelete_executed (time : Triple) : Executed s (reqScheduleDelete time s) := by
  unfold reqScheduleDelete
  split
  · exact .refused _ _
  · split
    · exact .answered (setSchedule_runs s fun ⟨length, sorted, entries⟩ => ⟨(List.length_filter_le _ _).trans length,
        sorted.filter _, fun x hx => entries x (List.mem_of_mem_filter hx)⟩) _
    · exact .refused _ _

theorem reqScheduleClear_executed : Executed s (reqScheduleClear s) :=
  .answered (setSchedule_runs s (x := { s.schedule with entries := [] })
    fun _ => ⟨Nat.zero_le _, .nil, fun _ h => nomatch h⟩) _

theorem reqScheduleHold_executed (value : Byte) : Executed s (reqScheduleHold value s) := by
  unfold reqScheduleHold
  split
  · exact .refused _ _
  · next b _ => exact .answered (setSchedule_runs s (x := { s.schedule with hold := b }) id) _

theorem reqScheduleRead_executed (item : Byte) : Executed s (reqScheduleRead item s) := by
  unfold reqScheduleRead
  split
  · exact .answered (.refl _) _
  · split
    · exact .answered (.refl _) _
    · exact .refused _ _

theorem reqContactSetup_executed (line sense action p q : Byte) : Executed s (reqContactSetup line sense action p q s) := by
  unfold reqContactSetup
  split
  · exact .answered ((setLine_runs _ _ _).trans (muteChanged_runs _ _)) _
  · exact .refused _ _

/-! ### Sources and notices -/

theorem reqSetPreferred_executed (operand : Byte) : Executed s (reqSetPreferred operand s) := by
  unfold reqSetPreferred
  split
  · exact .refused _ _
  · exact .answered (setSelector_runs _ _) _

theorem reqSetMode_executed (operand : Byte) : Executed s (reqSetMode operand s) := by
  unfold reqSetMode
  split
  · exact .refused _ _
  · split
    · exact .answered (.refl _) _
    · exact .answered ((setSelector_runs s _).trans (takeover_runs _)) _

theorem reqClearBar_executed (operand : Byte) : Executed s (reqClearBar operand s) := by
  unfold reqClearBar
  split
  · exact .refused _ _
  · next p _ =>
    split
    · dsimp only
      have cleared : Runs s (s.setPort p { s.port p with barred := false }) := setPort_runs s id
      split
      · exact .answered cleared _
      · exact .answered (cleared.trans (takeover_runs _)) _
    · exact .answered (.refl _) _

theorem reqForceOwner_executed (operand : Byte) : Executed s (reqForceOwner operand s) := by
  unfold reqForceOwner
  split
  · exact .refused _ _
  · split
    · exact .answered (.refl _) _
    · split
      · exact .refused _ _
      · exact .answered (changeover_runs _ _) _

theorem reqNoticeSetup_executed (source enable level : Byte) : Executed s (reqNoticeSetup source enable level s) := by
  unfold reqNoticeSetup
  split
  · exact .answered (setNoticeSource_runs _ _ _) _
  · exact .refused _ _

end Sys2Proof.Machine
end

section
/-! PROOFS. The settings, the resets, and every command of the part as a run of single writes (R163 to R169). -/

namespace Sys2Proof.Machine

variable (s : State)

/-! ### Settings -/

theorem of_inRange {lo hi v : Nat} (h : ¬inRange lo hi v = false) : lo ≤ v ∧ v ≤ hi :=
  of_decide_eq_true (Bool.eq_true_of_not_eq_false h)

theorem setSettings_runs {x : Settings} (legal : s.settings.Legal → x.Legal) (size : x.arraySize = s.settings.arraySize)
    (ceiling : x.ceiling = s.settings.ceiling) : Runs s (s.setSettings x) := Write.runs (.setting legal size ceiling)

theorem reqArraySize_executed (v : Nat) : Executed s (reqArraySize v s) := by
  unfold reqArraySize
  split
  · exact .refused _ _
  · next rest =>
    split
    · exact .refused _ _
    · next range =>
      split
      · exact .refused _ _
      · next entries =>
        exact .answered (Write.runs (.resize (Bool.eq_true_of_not_eq_false rest) (of_inRange range)
          (Bool.eq_false_of_not_eq_true entries))) _

theorem reqFrameRate_executed (v : Nat) : Executed s (reqFrameRate v s) := by
  unfold reqFrameRate
  split
  · exact .refused _ _
  · next range =>
    refine .answered ((setSettings_runs s (x := { s.settings with frameRate := v }) ?_ rfl rfl).trans
      ((flushBuffer_runs _).trans (setTimebase_runs (b := { s.timebase with frameTimer := 0 }) _ id))) _
    exact fun ⟨size, _, rest⟩ => ⟨size, of_inRange range, rest⟩

theorem reqStepPeriod_executed (v : Nat) : Executed s (reqStepPeriod v s) := by
  unfold reqStepPeriod
  split
  · exact .refused _ _
  · next range =>
    have set : Runs s (s.setSettings { s.settings with stepPeriod := v }) :=
      setSettings_runs s (fun ⟨size, rate, _, rest⟩ => ⟨size, rate, of_inRange range, rest⟩) rfl rfl
    dsimp only
    split
    · exact .answered set _
    · exact .answered (set.trans (Write.runs (.reload _))) _

theorem reqDropLength_executed (v : Nat) : Executed s (reqDropLength v s) := by
  unfold reqDropLength
  split
  · exact .refused _ _
  · split
    · exact .refused _ _
    · next range =>
      exact .answered (setSettings_runs s (x := { s.settings with dropLength := v })
        (fun ⟨size, rate, period, _, rest⟩ => ⟨size, rate, period, of_inRange range, rest⟩) rfl rfl) _

theorem reqCeiling_executed (v : Nat) : Executed s (reqCeiling v s) := by
  unfold reqCeiling
  split
  · exact .refused _ _
  · next rest =>
    split
    · exact .refused _ _
    · next range =>
      split
      · exact .refused _ _
      · next caps =>
        exact .answered (Write.runs (.ceiling (Bool.eq_false_of_not_eq_true rest) (of_inRange range).2
          (Bool.eq_false_of_not_eq_true caps))) _

theorem reqTravelWarn_executed (v : Nat) : Executed s (reqTravelWarn v s) := by
  unfold reqTravelWarn
  split
  · exact .refused _ _
  · next range =>
    split
    · exact .refused _ _
    · next below =>
      exact .answered (setSettings_runs s (x := { s.settings with travelWarn := v }) (fun ⟨size, rate, period, drop, ceiling, _, limit, _, rest⟩ =>
        ⟨size, rate, period, drop, ceiling, of_inRange range, limit, Nat.lt_of_not_le below, rest⟩) rfl rfl) _

theorem reqTravelLimit_executed (v : Nat) : Executed s (reqTravelLimit v s) := by
  unfold reqTravelLimit
  split
  · exact .refused _ _
  · split
    · exact .refused _ _
    · next range =>
      split
      · exact .refused _ _
      · next above =>
        exact .answered (setSettings_runs s (x := { s.settings with travelLimit := v }) (fun ⟨size, rate, period, drop, ceiling, warn, _, _, rest⟩ =>
          ⟨size, rate, period, drop, ceiling, warn, of_inRange range, Nat.lt_of_not_le above, rest⟩) rfl rfl) _

theorem reqSilenceTime_executed (v : Nat) : Executed s (reqSilenceTime v s) := by
  unfold reqSilenceTime
  split
  · exact .refused _ _
  · next range =>
    exact .answered (setSettings_runs s (x := { s.settings with silenceTime := v }) (fun ⟨size, rate, period, drop, ceiling, warn, limit, order, _, rest⟩ =>
      ⟨size, rate, period, drop, ceiling, warn, limit, order, of_inRange range, rest⟩) rfl rfl) _

theorem reqMonWindow_executed (v : Nat) : Executed s (reqMonWindow v s) := by
  unfold reqMonWindow
  split
  · exact .refused _ _
  · next member =>
    have set : Runs s (s.setSettings { s.settings with monWindow := v }) :=
      setSettings_runs s (fun ⟨size, rate, period, drop, ceiling, warn, limit, order, silence, _, rest⟩ =>
        ⟨size, rate, period, drop, ceiling, warn, limit, order, silence, not_not.mp member, rest⟩) rfl rfl
    dsimp only
    split
    · exact .answered set _
    · exact .answered (set.trans (restartWindow_runs _)) _

theorem reqWindowLimit_executed (v : Nat) : Executed s (reqWindowLimit v s) := by
  unfold reqWindowLimit
  split
  · exact .refused _ _
  · next range =>
    exact .answered (setSettings_runs s (x := { s.settings with windowLimit := v }) (fun ⟨size, rate, period, drop, ceiling, warn, limit, order, silence, window, _, rest⟩ =>
      ⟨size, rate, period, drop, ceiling, warn, limit, order, silence, window, of_inRange range, rest⟩) rfl rfl) _

theorem reqVerifyTries_executed (v : Nat) : Executed s (reqVerifyTries v s) := by
  unfold reqVerifyTries
  split
  · exact .refused _ _
  · split
    · exact .refused _ _
    · next range =>
      exact .answered (setSettings_runs s (x := { s.settings with verifyTries := v })
        (fun ⟨size, rate, period, drop, ceiling, warn, limit, order, silence, window, windowLimit, _, rest⟩ =>
          ⟨size, rate, period, drop, ceiling, warn, limit, order, silence, window, windowLimit, of_inRange range, rest⟩)
        rfl rfl) _

theorem reqFailLimit_executed (v : Nat) : Executed s (reqFailLimit v s) := by
  unfold reqFailLimit
  split
  · exact .refused _ _
  · next range =>
    refine .answered ((setSettings_runs s (x := { s.settings with failLimit := v }) ?legal rfl rfl).trans
      (setMonRecords_runs _ fun t h => ?records)) _
    case legal =>
      exact fun ⟨size, rate, period, drop, ceiling, warn, limit, order, silence, window, windowLimit, tries, _, rest⟩ =>
        ⟨size, rate, period, drop, ceiling, warn, limit, order, silence, window, windowLimit, tries, of_inRange range, rest⟩
    case records => rw [get_tab]; exact h

theorem reqHoldover_executed (v : Nat) : Executed s (reqHoldover v s) := by
  unfold reqHoldover
  split
  · exact .refused _ _
  · next range =>
    exact .answered (setSettings_runs s (x := { s.settings with holdover := v })
      (fun ⟨size, rate, period, drop, ceiling, warn, limit, order, silence, window, windowLimit, tries, fail, _, debounce⟩ =>
        ⟨size, rate, period, drop, ceiling, warn, limit, order, silence, window, windowLimit, tries, fail,
          of_inRange range, debounce⟩) rfl rfl) _

theorem reqDebounce_executed (v : Nat) : Executed s (reqDebounce v s) := by
  unfold reqDebounce
  split
  · exact .refused _ _
  · next range =>
    exact .answered (setSettings_runs s (x := { s.settings with debounce := v })
      (fun ⟨size, rate, period, drop, ceiling, warn, limit, order, silence, window, windowLimit, tries, fail, holdover, _⟩ =>
        ⟨size, rate, period, drop, ceiling, warn, limit, order, silence, window, windowLimit, tries, fail, holdover,
          (of_inRange range).2⟩) rfl rfl) _

theorem reqStationSetup_executed (k v : Nat) : Executed s (reqStationSetup k v s) := by
  unfold reqStationSetup
  split
  case h_1 => exact reqArraySize_executed s v
  case h_2 => exact reqFrameRate_executed s v
  case h_3 => exact reqStepPeriod_executed s v
  case h_4 => exact reqDropLength_executed s v
  case h_5 => exact reqCeiling_executed s v
  case h_6 => exact reqTravelWarn_executed s v
  case h_7 => exact reqTravelLimit_executed s v
  case h_8 => exact reqSilenceTime_executed s v
  case h_9 => exact reqMonWindow_executed s v
  case h_10 => exact reqWindowLimit_executed s v
  case h_11 => exact reqVerifyTries_executed s v
  case h_12 => exact reqFailLimit_executed s v
  case h_13 => exact reqHoldover_executed s v
  case h_14 => exact reqDebounce_executed s v
  case h_15 => exact .refused s _

/-! ### Queries and resets -/

theorem reqStationQuery_executed (setting : Byte) : Executed s (reqStationQuery setting s) := by
  unfold reqStationQuery
  split
  · exact .answered (.refl s) _
  · split
    · exact .refused s _
    · split
      · exact .answered (.refl s) _
      · exact .refused s _

theorem PortState.cleared_legal {p : PortState} (h : p.Legal) : p.cleared.Legal :=
  ⟨h.1, Nat.zero_le _, Nat.zero_le _, Nat.zero_le _⟩

theorem clearCounters_counterLaw (h : s.CounterLaw) : (clearCounters s).CounterLaw := by
  obtain ⟨⟨depth, priming, _⟩, portA, portB, _, _, records⟩ := h
  refine ⟨⟨depth, priming, Nat.zero_le _, Nat.zero_le _⟩, PortState.cleared_legal portA, PortState.cleared_legal portB,
    Nat.zero_le _, fun t => ?saturation, fun t => ?records⟩
  case saturation => show (Vector.replicate 12 0).get t ≤ 65535; rw [get_replicate]; exact Nat.zero_le _
  case records =>
    obtain ⟨deviation, count, _⟩ := records t
    show ((tab fun t => { s.monitor.records.get t with windows := 0 }).get t : MonRecord).Legal
    rw [get_tab]
    exact ⟨deviation, count, Nat.zero_le _⟩

theorem reqCounterClear_executed : Executed s (reqCounterClear s) :=
  .answered (Write.runs (.elsewhere (t := clearCounters s) (by constructor <;> rfl) (clearCounters_counterLaw s) id)) _

/-- Every request code with its payload executes, whatever its operands are (R163, R164). -/
theorem requestOf_executed {p : Port} {code : Byte} {payload : List Byte} {n : Nat} {op : RequestOp}
    (request : requestOf p code payload = some (n, op)) : Executed s (op s) := by
  simp only [requestOf] at request
  split at request
  case h_1 => cases request; exact reqStationSetup_executed s _ _
  case h_2 => cases request; exact reqStationQuery_executed s _
  case h_3 => cases request; exact .answered (.refl s) _
  case h_4 => cases request; exact reqCounterClear_executed s
  case h_5 => cases request; exact .answered (Write.runs (.unitReset s)) _
  case h_6 => cases request; exact reqNoticeSetup_executed s _ _ _
  case h_7 => cases request; exact reqPatternOpen_executed s _
  case h_8 => cases request; exact reqPatternHeader_executed s _ _ _ _ _ _ _ _
  case h_9 => cases request; exact reqTowerEntry_executed s _ _ _ _ _ _ _ _
  case h_10 => cases request; exact reqTowerEntryRemove_executed s _ _
  case h_11 => cases request; exact reqPatternClose_executed s _
  case h_12 => cases request; exact reqPatternErase_executed s _
  case h_13 => cases request; exact reqPatternRead_executed s _ _
  case h_14 => cases request; exact reqWeightTrim_executed s _ _ _ _
  case h_15 => cases request; exact reqShift_executed s _ _
  case h_16 => cases request; exact reqShiftCancel_executed s
  case h_17 => cases request; exact reqAbort_executed s _
  case h_18 => cases request; exact reqTowerLockout_executed s _ _
  case h_19 => cases request; exact reqTowerRestore_executed s _
  case h_20 => cases request; exact reqTowerStatus_executed s _
  case h_21 => cases request; exact reqTimeSet_executed s _ _
  case h_22 => cases request; exact reqScheduleAdd_executed s _ _ _
  case h_23 => cases request; exact reqScheduleDelete_executed s _
  case h_24 => cases request; exact reqScheduleClear_executed s
  case h_25 => cases request; exact reqScheduleHold_executed s _
  case h_26 => cases request; exact reqScheduleRead_executed s _
  case h_27 => cases request; exact reqContactSetup_executed s _ _ _ _ _
  case h_28 =>
    split at request
    case h_1 => cases request; exact reqSetPreferred_executed s _
    case h_2 => cases request; exact reqSetMode_executed s _
    case h_3 => cases request; exact reqClearBar_executed s _
    case h_4 => cases request; exact reqForceOwner_executed s _
    case h_5 => cases request; exact .refused s _
  case h_29 => cases request

/-- Settles O8: what the request's operation answers is placed in the slot that admits it. -/
theorem refused_request_changes_nothing : Obligations.Refused_request_changes_nothing := by
  intro c p code tag s origin admits
  obtain ⟨op, request, arrives⟩ := exec_of_requestOrigin origin
  have executed := requestOf_executed s request
  refine ⟨(op s).2, placeReply p code tag (op s).2 (op s).1, ?_, ?_, fun notOk notAccepted => ?_⟩
  · rw [arrives s, requestArrives_of_admits s code tag op admits]
  · rw [placeReply, setPort_port]
  · obtain ⟨same, values⟩ := executed.refusal notOk notAccepted
    exact ⟨by rw [same], values⟩

/-! ### Source frames and the step -/

theorem takeRequest_runs {op : RequestOp} (p : Port) (code tag : Byte) (executed : Executed s (op s)) :
    Runs s (takeRequest p code tag op s) := by
  unfold takeRequest
  split
  · exact overrun_runs _ _
  · exact executed.run.trans (placeReply_runs _ _ _ _ _)

theorem completeRequest_runs (p : Port) (code tag : Byte) (count : Nat) (payload : List Byte) :
    Runs s (completeRequest p code tag count payload s) := by
  unfold completeRequest
  split
  · exact badRequest_runs _ _ _ _
  · next frames op request =>
    split
    · exact takeRequest_runs s p code tag (requestOf_executed s request)
    · exact badRequest_runs _ _ _ _

theorem firstFrame_runs (p : Port) (count : Nat) (code tag : Byte) (payload : List Byte) :
    Runs s (firstFrame p count code tag payload s) := by
  unfold firstFrame
  dsimp only
  have abandoned := abandonRequest_runs s p
  split
  · exact abandoned.trans (badRequest_runs _ _ _ _)
  · split
    · exact abandoned.trans (completeRequest_runs _ _ _ _ _ _)
    · exact abandoned.trans (setAssembly_runs _ _ _)

theorem nextFrame_runs (p : Port) (payload : List Byte) : Runs s (nextFrame p payload s) := by
  unfold nextFrame
  split
  · exact .refl _
  · split
    · exact (setAssembly_runs _ _ _).trans (completeRequest_runs _ _ _ _ _ _)
    · exact setAssembly_runs _ _ _

theorem sourceFrame_runs (p : Port) (bytes : List Byte) : Runs s (sourceFrame p bytes s) := by
  unfold sourceFrame
  split
  · exact discardFrame_runs _ _
  · exact (abandonRequest_runs s p).trans (sampleTaken_runs _ _ _ _)
  · exact abandonRequest_runs s p
  · exact firstFrame_runs _ _ _ _ _ _
  · exact nextFrame_runs _ _ _

theorem requestArrives_runs {c : Instr} {p : Port} {code tag : Byte} {op : RequestOp}
    (request : requestOf p code (requestPayload c) = some (requestFrameCount code, op)) :
    Runs s (requestArrives p code tag op s) :=
  (abandonRequest_runs s p).trans (takeRequest_runs _ p code tag (requestOf_executed _ request))

/-- What the execution of a command comes to: a reset, a tick of the state with no event due, one event that was due, or a
run of single writes from the state with no event due. -/
inductive Execution (s : State) : State → Prop
  | reset (levels : BitVec 4) : Execution s { State.powerOn levels with pending := s.pending }
  | tick (levels pins : BitVec 4) : Execution s (tick levels pins (settle s))
  | event (e : TickEvent) : Execution s (takeDue e s)
  | none : Execution s s
  | runs {t : State} (run : Runs (settle s) t) : Execution s t

theorem exec_execution {c : Instr} {t : State} (h : exec c s = .next t) : Execution s t := by
  cases origin : requestOrigin c with
  | some x =>
    obtain ⟨p, code, tag⟩ := x
    obtain ⟨op, request, arrives⟩ := exec_of_requestOrigin origin
    rw [arrives s] at h
    cases h
    exact .runs (requestArrives_runs _ request)
  | none =>
    cases c with
    | powerOnReset levels => cases h; exact .reset levels
    | millisecondTick levels => cases h; exact .tick _ _
    | frameTimerExpiry => cases h; exact .runs (frameExpiry_runs _)
    | sampleFrame p bytes => cases h; exact .runs (sourceFrame_runs _ _ _)
    | requestFrame p bytes => cases h; exact .runs (sourceFrame_runs _ _ _)
    | idleFrame p bytes => cases h; exact .runs (sourceFrame_runs _ _ _)
    | discardedSourceFrame p bytes => cases h; exact .runs (sourceFrame_runs _ _ _)
    | towerReturnFrame bytes => cases h; exact .runs (towerReturn_runs _ _)
    | stepTimerExpiry => cases h; exact .event _
    | switchWaitTimeout => cases h; exact .event _
    | windowLimitReached => cases h; exact .event _
    | ownerLoss => cases h; exact .event _
    | secondAdvance => cases h; exact .event _
    | holdoverExpiry p => cases h; exact .event _
    | travelLimitReached n =>
      simp only [exec, execTravelLimitReached] at h
      split at h <;> cases h
      · exact .event _
      · exact .none
    | silenceTimeReached n =>
      simp only [exec, execSilenceTimeReached] at h
      split at h <;> cases h
      · exact .event _
      · exact .none
    | contactDebouncedChange n =>
      simp only [exec, execContactDebouncedChange] at h
      split at h <;> cases h
      · exact .event _
      · exact .none
    | _ => cases origin

/-- What a step comes to: no command waits, or the front one executes with the rest waiting. -/
theorem step_execution {s t : State} (h : step s = .next t) : ∃ u, Quiet s u ∧ u.due = s.due ∧ Execution u t := by
  unfold step at h
  split at h
  · cases h
    exact ⟨s, by constructor <;> rfl, rfl, .none⟩
  · next c rest _ => exact ⟨{ s with pending := rest }, by constructor <;> rfl, rfl, exec_execution _ h⟩

/-- A law that a reset, every single write and a tick keep is kept by every step. -/
theorem step_keeps {I : State → Prop} (reset : ∀ levels cs, I { State.powerOn levels with pending := cs })
    (one : ∀ s t, Write s t → I s → I t) (ticks : ∀ levels pins s, I s → I (tick levels pins s)) {s t : State} (h : I s)
    (next : step s = .next t) : I t := by
  obtain ⟨u, quiet, _, execution⟩ := step_execution next
  have start : I u := quiet.runs.keeps one h
  cases execution with
  | reset levels => exact reset levels _
  | tick levels pins => exact ticks levels pins _ ((settle_runs u).keeps one start)
  | event e => exact (takeDue_runs u e).keeps one start
  | none => exact start
  | runs run => exact Runs.keeps one run ((settle_runs u).keeps one start)

end Sys2Proof.Machine
end

section
/-! PROOFS. The laws of the queue and of the zero hold, kept by every single write (O58, O59). -/

namespace Sys2Proof.Machine

variable (s : State)

/-! ### What the larger writes leave unchanged -/

theorem applyLiveTrim_shift (p : Slot) (e : Entry) : (applyLiveTrim p e s).shift = s.shift := by
  unfold applyLiveTrim
  split <;> rfl

theorem resizeArray_shift (v : Nat) : (resizeArray v s).shift = s.shift := by
  unfold resizeArray
  dsimp only
  split <;> rfl

/-! ### The Shift Queue (R56, R57, R59) -/

theorem filter_not_routine {q : List Order} (h : ∀ o ∈ q, o.cause.isRoutine = true ∧ o.target.isSome = true) :
    (q.filter fun o => !o.cause.isRoutine) = [] :=
  List.filter_eq_nil_iff.mpr fun o ho => by simp [(h o ho).1]

theorem queueLaw_of_empty {t : State} (empty : t.shift.queue = []) : t.QueueLaw := by
  rw [State.QueueLaw, empty]
  exact ⟨Nat.zero_le _, fun _ ho => (List.not_mem_nil ho).elim, .nil⟩

theorem Write.keeps_queueLaw {s t : State} (w : Write s t) (h : s.QueueLaw) : t.QueueLaw := by
  cases w with
  | elsewhere same => rw [State.QueueLaw, same.queue]; exact h
  | unitReset => exact queueLaw_of_empty rfl
  | shorten part =>
    obtain ⟨length, routine, chain⟩ := h
    refine ⟨part.length_le.trans length, fun o ho => routine o (part.subset ho), ?_⟩
    obtain ⟨before, after, whole⟩ := part
    rw [← whole] at chain
    exact chain.left_of_append.right_of_append
  | cancel => exact queueLaw_of_empty (filter_not_routine h.2.1)
  | @enqueue o p routine target ready room tail =>
    obtain ⟨_, routines, chain⟩ := h
    refine ⟨?length, fun x hx => ?routine, ?chain⟩
    case length => show (s.shift.queue ++ [o]).length ≤ 4; rw [List.length_append]; exact room
    case routine =>
      rcases List.mem_append.mp hx with hx | hx
      · exact routines x hx
      · rw [List.mem_singleton.mp hx]; exact ⟨routine, by rw [target]; rfl⟩
    case chain =>
      refine chain.append (.singleton _) fun x hx y hy => ?_
      cases hy
      rw [Option.mem_def.mp hx] at tail
      exact fun same => tail (congrArg some same)
  | trim => rw [State.QueueLaw, applyLiveTrim_shift]; exact h
  | resize => rw [State.QueueLaw, resizeArray_shift]; exact h
  | _ => exact h

/-- Settles O59. -/
theorem queue_law_kept : Obligations.Queue_law_kept := by
  intro s t law next
  exact step_keeps (fun _ _ => queueLaw_of_empty rfl) (fun _ _ => Write.keeps_queueLaw)
    (fun _ _ _ h => h) law next

end Sys2Proof.Machine
end

section
/-! PROOFS. The zero hold and the laws of the network records, kept by every step (O58). -/

namespace Sys2Proof.Machine

/-- The laws of O58 together. -/
abbrev State.HoldLaws (s : State) : Prop := s.ZeroHoldLaw ∧ s.NetworkLaw

theorem zeroHold_iff {s : State} {t : Tower} : s.zeroHold t = true ↔
    ((s.tower t).lockout || (s.tower t).causes.any) = true
      ∨ (s.net t).state.isMoving = true ∨ ((s.net t).state == .drifting) = true := by
  simp only [State.zeroHold, State.outOfService, State.unusable, Bool.or_eq_true, or_assoc]

/-- The zero hold reads of a tower its lockout and its causes, and of a network record its state. -/
theorem zeroHold_of_same {s u : State} {t : Tower} (lockout : (u.tower t).lockout = (s.tower t).lockout)
    (causes : (u.tower t).causes = (s.tower t).causes) (state : (u.net t).state = (s.net t).state) :
    u.zeroHold t = s.zeroHold t := by
  simp only [State.zeroHold, State.outOfService, State.unusable, lockout, causes, state]

/-- The laws read the array size, the live weights, the lockouts and causes, and the states of the networks. -/
theorem State.HoldLaws.congr {s u : State} (h : s.HoldLaws) (size : u.settings.arraySize = s.settings.arraySize)
    (live : u.engine.live = s.engine.live) (lockout : ∀ t, (u.tower t).lockout = (s.tower t).lockout)
    (causes : ∀ t, (u.tower t).causes = (s.tower t).causes) (state : ∀ t, (u.net t).state = (s.net t).state) :
    u.HoldLaws := by
  obtain ⟨zero, networks⟩ := h
  refine ⟨fun t hold => ?_, fun t => ?_⟩
  · rw [zeroHold_of_same (lockout t) (causes t) (state t)] at hold
    rw [State.live, live]
    exact zero t hold
  · rw [size, state t, causes t]
    exact networks t

/-- Weights that are written by tower, or (0, 0) under the zero hold, keep the laws. -/
theorem holdLaws_of_writes {s : State} (h : s.HoldLaws) {v : Vector Cpx 12}
    (written : ∀ t, s.zeroHold t = true → v.get t = Cpx.zero ∨ v.get t = s.live t) : (s.setLive v).HoldLaws := by
  refine ⟨fun t hold => ?_, h.2⟩
  rcases written t hold with zero | same
  · exact zero
  · exact same.trans (h.1 t hold)

theorem applyLiveTrim_holdLaws {s : State} (h : s.HoldLaws) (p : Slot) (e : Entry) : (applyLiveTrim p e s).HoldLaws := by
  unfold applyLiveTrim
  split
  · have written : (writeWeight e.tower e.effective s).HoldLaws := by
      refine holdLaws_of_writes h fun t hold => ?_
      rw [get_set]
      split
      · next same => left; rw [← same, hold]; rfl
      · exact .inr rfl
    exact written
  · exact h

theorem setTower_holdLaws {s : State} {t : Tower} {e : TowerEntry} (h : s.HoldLaws)
    (hold : (e.lockout || e.causes.any) = true → s.outOfService t = true ∨ s.live t = Cpx.zero)
    (jam : (s.tower t).causes.jammed = true → e.causes.jammed = true ∨ (s.net t).state.isSettled = true) :
    (s.setTower t e).HoldLaws := by
  obtain ⟨zero, networks⟩ := h
  refine ⟨fun u held => ?_, fun u => ?_⟩
  · by_cases same : u = t
    · subst same
      rw [zeroHold_iff, setTower_tower, if_pos rfl] at held
      rcases held with service | moving
      · rcases hold service with old | already
        · exact zero u (zeroHold_iff.mpr (.inl old))
        · exact already
      · exact zero u (zeroHold_iff.mpr (.inr moving))
    · refine zero u ?_
      rw [zeroHold_iff, setTower_tower, if_neg same] at held
      exact zeroHold_iff.mpr held
  · obtain ⟨above, jammed⟩ := networks u
    refine ⟨above, fun state => ?_⟩
    have cause := jammed state
    rw [setTower_tower]
    split
    · next same =>
      subst same
      rcases jam cause with kept | settled
      · exact kept
      · rw [show (s.net u).state = .jammed from state] at settled
        cases settled
    · exact cause

theorem setNet_holdLaws {s : State} {t : Tower} {r : NetRecord} (h : s.HoldLaws)
    (inside : s.inArray t = true ∨ (s.net t).state ≠ .unknown ∨ r.state = (s.net t).state)
    (jam : r.state = .jammed → (s.net t).state = .jammed ∨ (s.tower t).causes.jammed = true)
    (hold : (r.state.isMoving || r.state == .drifting) = true → s.live t = Cpx.zero ∨ r.state = (s.net t).state) :
    (s.setNet t r).HoldLaws := by
  obtain ⟨zero, networks⟩ := h
  refine ⟨fun u held => ?_, fun u => ?_⟩
  · by_cases same : u = t
    · subst same
      rw [zeroHold_iff, setNet_net, if_pos rfl] at held
      rcases held with service | moving
      · exact zero u (zeroHold_iff.mpr (.inl service))
      · rcases hold (by simpa only [Bool.or_eq_true] using moving) with already | state
        · exact already
        · exact zero u (zeroHold_iff.mpr (.inr (state ▸ moving)))
    · refine zero u ?_
      rw [zeroHold_iff, setNet_net, if_neg same] at held
      exact zeroHold_iff.mpr held
  · rw [setNet_net]
    split
    · next same =>
      subst same
      obtain ⟨above, jammed⟩ := networks u
      refine ⟨fun outside => ?_, fun state => (jam state).elim jammed id⟩
      have unknown := above outside
      rcases inside with inArray | known | state
      · exact absurd (of_decide_eq_true inArray) (Nat.not_lt.mpr outside)
      · exact absurd unknown known
      · rw [state, unknown]
    · exact networks u

theorem holdLaws_of_initial {u : State} (net : ∀ t, u.net t = .initial) (live : ∀ t, u.live t = Cpx.zero) : u.HoldLaws := by
  refine ⟨fun t _ => live t, fun t => ⟨fun _ => by rw [net]; rfl, fun state => ?_⟩⟩
  rw [net] at state
  cases state

theorem unitReset_holdLaws (s : State) : (unitReset s).HoldLaws :=
  holdLaws_of_initial (fun t => get_replicate _ t) fun t => get_replicate _ t

theorem powerOn_holdLaws (levels : BitVec 4) (cs : List Instr) : ({ State.powerOn levels with pending := cs } : State).HoldLaws :=
  holdLaws_of_initial (fun t => get_replicate _ t) fun t => get_replicate _ t

/-! ### A change of ARRAY_SIZE (R50, R51) -/

theorem resizeArray_of_ne {s : State} {v : Nat} (h : v ≠ s.settings.arraySize) (t : Tower) :
    (resizeArray v s).settings.arraySize = v
      ∧ ((resizeArray v s).tower t = if v ≤ t.val then (s.tower t).cleared false
        else if s.settings.arraySize ≤ t.val then (s.tower t).cleared true else s.tower t)
      ∧ ((resizeArray v s).net t
        = if v < s.settings.arraySize ∧ v ≤ t.val then (s.net t).forgotten else s.net t)
      ∧ (resizeArray v s).live t = s.live t := by
  unfold resizeArray
  rw [if_neg h]
  exact ⟨rfl, get_tab _ t, get_tab _ t, rfl⟩

theorem resizeArray_holdLaws {s : State} (h : s.HoldLaws) (v : Nat) : (resizeArray v s).HoldLaws := by
  by_cases same : v = s.settings.arraySize
  · simpa [resizeArray, same] using h
  obtain ⟨zero, networks⟩ := h
  have service : ∀ t, (((resizeArray v s).tower t).lockout || ((resizeArray v s).tower t).causes.any) = true →
      ((s.tower t).lockout || (s.tower t).causes.any) = true := by
    intro t
    obtain ⟨_, tower, _, _⟩ := resizeArray_of_ne same t
    rw [tower]
    split
    · simp [TowerEntry.cleared, Causes.none, Causes.any]; tauto
    · split
      · simp [TowerEntry.cleared, Causes.none, Causes.any]; tauto
      · exact id
  have state : ∀ t, ((resizeArray v s).net t).state = .unknown ∨ ((resizeArray v s).net t).state = (s.net t).state := by
    intro t
    obtain ⟨_, _, net, _⟩ := resizeArray_of_ne same t
    rw [net]
    split
    · exact .inl rfl
    · exact .inr rfl
  refine ⟨fun t held => ?_, fun t => ?_⟩
  · obtain ⟨_, _, _, live⟩ := resizeArray_of_ne same t
    rw [live]
    refine zero t (zeroHold_iff.mpr ?_)
    rcases zeroHold_iff.mp held with out | moving
    · exact .inl (service t out)
    · rcases state t with unknown | old
      · rw [unknown] at moving; simp [NetState.isMoving] at moving
      · rw [old] at moving; exact .inr moving
  · obtain ⟨size, tower, net, _⟩ := resizeArray_of_ne same t
    obtain ⟨above, jammed⟩ := networks t
    rw [size]
    constructor
    · intro outside
      rw [net]
      split
      · rfl
      · next kept => exact above (by omega)
    · intro state
      have inside : ¬v ≤ t.val ∧ ¬s.settings.arraySize ≤ t.val := by
        rw [net] at state
        split at state
        · cases state
        · next kept =>
          have old : ¬s.settings.arraySize ≤ t.val := fun outside => by rw [above outside] at state; cases state
          exact ⟨by omega, old⟩
      rw [tower, if_neg inside.1, if_neg inside.2]
      rw [net, if_neg (by tauto)] at state
      exact jammed state

/-! ### Every write and every step -/

theorem Write.keeps_holdLaws {s t : State} (w : Write s t) (h : s.HoldLaws) : t.HoldLaws := by
  cases w with
  | elsewhere same =>
    refine h.congr (by rw [same.settings]) same.live (fun t => ?_) (fun t => ?_) fun t => ?_
    · simp only [State.tower, same.towers]
    · simp only [State.tower, same.towers]
    · simp only [State.net, same.nets]
  | setting _ size => exact h.congr size rfl (fun _ => rfl) (fun _ => rfl) fun _ => rfl
  | resize => exact resizeArray_holdLaws h _
  | trim => exact applyLiveTrim_holdLaws (s := s.setRecord _ _) h _ _
  | unitReset => exact unitReset_holdLaws s
  | tower hold jam => exact setTower_holdLaws h hold jam
  | net inside jam hold => exact setNet_holdLaws h inside jam hold
  | withdraw => exact h.congr rfl rfl (fun _ => rfl) (fun _ => rfl) fun t => by rw [withdrawAll_net]
  | silence t =>
    refine holdLaws_of_writes h fun u _ => ?_
    rw [get_set]
    split
    · exact .inl rfl
    · exact .inr rfl
  | @step c a _ _ _ =>
    refine holdLaws_of_writes (s := s.setArray a) h fun t hold => .inl ?_
    rw [get_tab, if_pos hold]
  | _ => exact h

theorem tick_holdLaws (levels pins : BitVec 4) {s : State} (h : s.HoldLaws) : (tick levels pins s).HoldLaws := by
  have tower : ∀ t, (tick levels pins s).tower t = (s.tower t).ticked := fun t => get_tab _ t
  have net : ∀ t, (tick levels pins s).net t = (s.net t).ticked := fun t => get_tab _ t
  refine h.congr rfl rfl (fun t => ?_) (fun t => ?_) fun t => ?_
  · rw [tower, TowerEntry.ticked]; split <;> rfl
  · rw [tower, TowerEntry.ticked]; split <;> rfl
  · rw [net, NetRecord.ticked]; split <;> rfl

/-- Settles O58. -/
theorem zero_hold_and_network_laws_kept : Obligations.Zero_hold_and_network_laws_kept := by
  intro s t zero networks next
  exact step_keeps powerOn_holdLaws (fun _ _ => Write.keeps_holdLaws) (fun levels pins _ => tick_holdLaws levels pins)
    (I := State.HoldLaws) ⟨zero, networks⟩ next

end Sys2Proof.Machine
end

section
/-! PROOFS. The counters, the clock, the Schedule Table and the step timer keep their ranges (O60). -/

namespace Sys2Proof.Machine

/-! ### Counters and times -/

/-- The laws of O60 that do not read the settings. -/
abbrev State.CountLaws (s : State) : Prop := s.CounterLaw ∧ s.TimeLaw

theorem initial_record_legal : MonRecord.initial.Legal := by decide

theorem unitReset_countLaws {s : State} (h : s.CountLaws) : (unitReset s).CountLaws := by
  obtain ⟨⟨_, ⟨ageA, _⟩, ⟨ageB, _⟩, _, _, _⟩, time⟩ := h
  refine ⟨⟨⟨Nat.zero_le _, fun _ => Nat.zero_lt_succ 7, Nat.zero_le _, Nat.zero_le _⟩,
    ⟨ageA, Nat.zero_le _, Nat.zero_le _, Nat.zero_le _⟩, ⟨ageB, Nat.zero_le _, Nat.zero_le _, Nat.zero_le _⟩,
    Nat.zero_le _, fun t => ?_, fun t => ?_⟩, time⟩
  · exact (get_replicate 0 t).trans_le (Nat.zero_le _)
  · rw [show (unitReset s).monitor.records.get t = .initial from get_replicate _ t]
    exact initial_record_legal

theorem initial_buffer_legal :
    ({ fifo := [], state := .priming, held := Cpx.zero, underruns := 0, overruns := 0 } : Buffer).Legal := by decide

theorem initial_port_legal : PortState.initial.Legal := by decide

theorem powerOn_countLaws (levels : BitVec 4) (cs : List Instr) :
    ({ State.powerOn levels with pending := cs } : State).CountLaws := by
  refine ⟨⟨initial_buffer_legal, initial_port_legal, initial_port_legal, Nat.zero_le _, fun t => ?_, fun t => ?_⟩, Nat.zero_le _, Nat.zero_le _,
    Nat.zero_le _, .nil, fun _ he => (List.not_mem_nil he).elim⟩
  · exact (get_replicate 0 t).trans_le (Nat.zero_le _)
  · rw [show (State.monitor _).records.get t = MonRecord.initial from get_replicate _ t]
    exact initial_record_legal

theorem applyLiveTrim_countLaws {s : State} (h : s.CountLaws) (p : Slot) (e : Entry) : (applyLiveTrim p e s).CountLaws := by
  unfold applyLiveTrim
  split <;> exact h

theorem resizeArray_countLaws {s : State} (h : s.CountLaws) (v : Nat) : (resizeArray v s).CountLaws := by
  unfold resizeArray
  dsimp only
  split <;> exact h

theorem Write.keeps_countLaws {s t : State} (w : Write s t) (h : s.CountLaws) : t.CountLaws := by
  cases w with
  | elsewhere _ counters time => exact ⟨counters h.1, time h.2⟩
  | resize => exact resizeArray_countLaws h _
  | trim => exact applyLiveTrim_countLaws (s := s.setRecord _ _) h _ _
  | unitReset => exact unitReset_countLaws h
  | _ => exact h

theorem Timebase.ticked_legal {b : Timebase} (h : b.Legal) : b.ticked.Legal := by
  unfold Timebase.ticked
  split
  · next running => exact ⟨h.1, Nat.succ_le_of_lt running.2⟩
  · exact h

theorem tick_countLaws (levels pins : BitVec 4) {s : State} (h : s.CountLaws) : (tick levels pins s).CountLaws := by
  obtain ⟨⟨buffer, ⟨ageA, portA⟩, ⟨ageB, portB⟩, rest⟩, second, subsecond, schedule⟩ := h
  obtain ⟨second, subsecond⟩ := Timebase.ticked_legal ⟨second, subsecond⟩
  exact ⟨⟨buffer, ⟨bump_le ageA, portA⟩, ⟨bump_le ageB, portB⟩, rest⟩, second, subsecond, schedule⟩

/-! ### The step timer (R64) -/

theorem initial_settings_legal : Settings.initial.Legal := by decide

/-- The step timer's counter with legal settings, at 0 only while it runs and the given condition stands. -/
structure State.Timed (s : State) (waits : Prop) : Prop where
  legal : s.settings.Legal
  top : s.shift.timer.counter ≤ 16
  zero : s.shift.timer.counter = 0 → s.shift.timer.running = true ∧ waits

theorem State.Timed.stepPeriod_range {s : State} {waits : Prop} (h : s.Timed waits) :
    1 ≤ s.settings.stepPeriod ∧ s.settings.stepPeriod ≤ 16 := by
  obtain ⟨⟨_, _, period, _⟩, _, _⟩ := h
  exact period

/-- A counter that takes the step period is not at 0. -/
theorem timed_of_reload {s t : State} {waits : Prop} (h : s.Timed waits) (settings : t.settings = s.settings)
    (counter : t.shift.timer.counter = s.settings.stepPeriod) : t.Timed waits := by
  obtain ⟨least, most⟩ := h.stepPeriod_range
  exact ⟨settings ▸ h.legal, counter ▸ most, fun zero => by rw [counter] at zero; omega⟩

theorem State.Timed.congr {s t : State} {waits : Prop} (h : s.Timed waits) (settings : t.settings = s.settings)
    (timer : t.shift.timer = s.shift.timer) : t.Timed waits := by
  obtain ⟨legal, top, zero⟩ := h
  exact ⟨settings ▸ legal, timer ▸ top, timer ▸ zero⟩

theorem stopTimer_timed {s : State} {waits : Prop} (h : s.Timed waits) : (stopTimer s).Timed waits := by
  obtain ⟨least, _⟩ := h.stepPeriod_range
  have moves := stopTimer_counter_ne_zero s (by omega)
  refine ⟨h.legal, ?_, fun zero => absurd zero moves⟩
  rw [stopTimer_counter]
  split
  · exact h.stepPeriod_range.2
  · exact h.top

theorem resizeArray_timed {s : State} {waits : Prop} (h : s.Timed waits) {v : Nat} (range : 2 ≤ v ∧ v ≤ 12) :
    (resizeArray v s).Timed waits := by
  unfold resizeArray
  dsimp only
  split
  · exact h
  · obtain ⟨⟨_, rest⟩, top, zero⟩ := h
    exact ⟨⟨range, rest⟩, top, zero⟩

theorem applyLiveTrim_settings (s : State) (p : Slot) (e : Entry) : (applyLiveTrim p e s).settings = s.settings := by
  unfold applyLiveTrim
  split <;> rfl

theorem Write.keeps_timed {waits : Prop} {s t : State} (w : Write s t) (h : s.Timed waits) : t.Timed waits := by
  cases w with
  | elsewhere same => exact h.congr same.settings same.timer
  | setting legal => exact ⟨legal h.legal, h.top, h.zero⟩
  | ceiling _ range =>
    obtain ⟨⟨size, rate, period, drop, _, rest⟩, top, zero⟩ := h
    exact ⟨⟨size, rate, period, drop, range, rest⟩, top, zero⟩
  | resize _ range => exact resizeArray_timed h range
  | trim => exact h.congr (applyLiveTrim_settings _ _ _) (by rw [applyLiveTrim_shift]; rfl)
  | unitReset => exact timed_of_reload h rfl rfl
  | startTimer => exact timed_of_reload h rfl rfl
  | stopTimer => exact stopTimer_timed h
  | reload => exact timed_of_reload h rfl rfl
  | _ => exact h.congr rfl rfl

theorem Runs.keeps_timed {waits : Prop} {s t : State} (run : Runs s t) (h : s.Timed waits) : t.Timed waits :=
  run.keeps (fun _ _ w => w.keeps_timed) h

/-- After its expiry the step timer is not at 0 any more. -/
theorem stepTimerExpired_timed {s : State} (h : s.Timed True) : (stepTimerExpired s).Timed False := by
  unfold stepTimerExpired
  split
  · have reloaded : (s.setTimer { s.shift.timer with counter := s.settings.stepPeriod }).Timed False := by
      obtain ⟨least, most⟩ := h.stepPeriod_range
      exact ⟨h.legal, most, fun zero => absurd (show s.settings.stepPeriod = 0 from zero) (by omega)⟩
    exact (takeStep_runs _).keeps_timed reloaded
  · next still => exact ⟨h.legal, h.top, fun zero => absurd ⟨(h.zero zero).1, zero⟩ still⟩

theorem State.Timed.mono {s : State} {p q : Prop} (h : s.Timed p) (imp : p → q) : s.Timed q :=
  ⟨h.legal, h.top, fun zero => (h.zero zero).imp id imp⟩

/-- Once the events that are still to come are taken, the step timer is not at 0. -/
theorem runEvents_timed (es : List TickEvent) {s : State} (h : s.Timed (TickEvent.stepTimer ∈ es)) :
    (es.foldl (fun s e => runEvent e s) s).Timed False := by
  induction es generalizing s with
  | nil => exact h.mono List.not_mem_nil
  | cons e es ih =>
    refine ih ?_
    by_cases expiry : e = .stepTimer
    · subst expiry
      exact (stepTimerExpired_timed (h.mono fun _ => trivial)).mono False.elim
    · exact (runEvent_runs s e).keeps_timed (h.mono fun due => (List.mem_cons.mp due).resolve_left (Ne.symm expiry))

theorem settle_timed {s : State} (h : s.Timed (TickEvent.stepTimer ∈ s.due)) : (settle s).Timed False :=
  runEvents_timed s.due (h.congr rfl rfl)

theorem takeDue_timed {s : State} {e : TickEvent} (h : s.Timed (TickEvent.stepTimer ∈ s.due)) :
    (takeDue e s).Timed (TickEvent.stepTimer ∈ (takeDue e s).due) := by
  by_cases due : e ∈ s.due
  · rw [takeDue_of_due s due, runEvent_due, setDue_due]
    have timed : (s.setDue (s.due.erase e)).Timed (TickEvent.stepTimer ∈ s.due) := h.congr rfl rfl
    by_cases expiry : e = .stepTimer
    · subst expiry
      exact (stepTimerExpired_timed (timed.mono fun _ => trivial)).mono False.elim
    · refine (runEvent_runs _ e).keeps_timed (timed.mono fun member => ?_)
      exact (List.mem_erase_of_ne (Ne.symm expiry)).mpr member
  · rw [takeDue_of_not_due s due]
    exact h

theorem tick_timed (levels pins : BitVec 4) {s : State} (h : s.Timed False) :
    (tick levels pins s).Timed (TickEvent.stepTimer ∈ (tick levels pins s).due) := by
  have timer : (tick levels pins s).shift.timer = s.shift.timer.ticked := rfl
  refine ⟨h.legal, ?_, fun zero => ?_⟩
  · rw [timer]
    unfold StepTimer.ticked
    split
    · exact (Nat.sub_le _ _).trans h.top
    · exact h.top
  · have running : (tick levels pins s).shift.timer.running = true := by
      rw [timer] at zero ⊢
      unfold StepTimer.ticked at zero ⊢
      split
      · next on => exact on
      · next off => rw [if_neg off] at zero; exact (h.zero zero).2.elim
    exact ⟨running, (mem_tick_due _ _ _ _).mpr (by simp [eventReached, running, zero])⟩

theorem powerOn_timed (levels : BitVec 4) (cs : List Instr) (waits : Prop) :
    ({ State.powerOn levels with pending := cs } : State).Timed waits :=
  ⟨initial_settings_legal, (by decide : 1 ≤ 16), fun zero => absurd zero (by decide : (1 : Nat) ≠ 0)⟩

theorem Execution.keeps_timed {s t : State} (execution : Execution s t) (h : s.Timed (TickEvent.stepTimer ∈ s.due)) :
    t.Timed (TickEvent.stepTimer ∈ t.due) := by
  cases execution with
  | reset levels => exact powerOn_timed levels _ _
  | tick levels pins => exact tick_timed levels pins (settle_timed h)
  | event e => exact takeDue_timed h
  | none => exact h
  | runs run => exact (run.keeps_timed (settle_timed h)).mono False.elim

/-- Settles O60. -/
theorem counter_and_time_laws_kept : Obligations.Counter_and_time_laws_kept := by
  intro s t next
  refine ⟨fun counters time => ?_, fun legal timer => ?_⟩
  · exact step_keeps (I := State.CountLaws) powerOn_countLaws (fun _ _ => Write.keeps_countLaws)
      (fun levels pins _ => tick_countLaws levels pins) ⟨counters, time⟩ next
  · obtain ⟨u, quiet, due, execution⟩ := step_execution next
    obtain ⟨top, zero⟩ := timer
    have timed : s.Timed (TickEvent.stepTimer ∈ s.due) := ⟨legal, top, zero⟩
    have kept := execution.keeps_timed (due ▸ quiet.runs.keeps_timed timed)
    exact ⟨kept.top, kept.zero⟩

end Sys2Proof.Machine
end

section
/-! PROOFS. The arithmetic of a ramp, and the power that no step of it exceeds (R66, R70, R71; O18). -/

namespace Sys2Proof.Machine

/-! ### One component -/

theorem dropValue_natAbs (a : Int) {n k : Nat} (h : k ≤ n) : (dropValue a n k).natAbs = a.natAbs * (n - k) / n := by
  rw [dropValue, Int.natAbs_tdiv, Int.natAbs_mul, Int.natAbs_natCast]
  congr 2
  omega

theorem dropValue_natAbs_le (a : Int) {n k : Nat} (h : k ≤ n) : (dropValue a n k).natAbs ≤ a.natAbs := by
  rw [dropValue_natAbs a h]
  exact Nat.div_le_of_le_mul ((Nat.mul_le_mul_left _ (Nat.sub_le n k)).trans_eq (Nat.mul_comm _ _))

theorem dropValue_last (a : Int) (n : Nat) : dropValue a n n = 0 := by simp [dropValue]

theorem crossValue_last (a b : Int) {n : Nat} (h : 0 < n) : crossValue a b n n = b := by
  have positive : (n : Int) ≠ 0 := by omega
  simp [crossValue, Int.mul_tdiv_cancel b positive]

theorem crossValue_first (a b : Int) {n : Nat} (h : 0 < n) : crossValue a b n 0 = a := by
  have positive : (n : Int) ≠ 0 := by omega
  simp [crossValue, Int.mul_tdiv_cancel a positive]

theorem crossValue_mul_le (a b : Int) {n k : Nat} (h : k ≤ n) :
    (crossValue a b n k).natAbs * n ≤ a.natAbs * (n - k) + b.natAbs * k := by
  rw [crossValue, Int.natAbs_tdiv, Int.natAbs_natCast]
  refine (Nat.div_mul_le_self _ n).trans ((Int.natAbs_add_le _ _).trans_eq ?_)
  rw [Int.natAbs_mul, Int.natAbs_mul, Int.natAbs_natCast]
  congr 2
  omega

/-- The square of a weighted mean is at most the weighted mean of the squares. -/
theorem mean_mul_mean_le (p q m k : Nat) : (p * m + q * k) * (p * m + q * k) ≤ (m + k) * (m * (p * p) + k * (q * q)) := by
  have gap : (0 : Int) ≤ (m : Int) * k * ((p - q) * (p - q)) := mul_nonneg (by positivity) (mul_self_nonneg _)
  zify
  linarith

theorem crossValue_square_le (a b : Int) {n k : Nat} (h : k ≤ n) (positive : 0 < n) :
    n * ((crossValue a b n k).natAbs * (crossValue a b n k).natAbs)
      ≤ (n - k) * (a.natAbs * a.natAbs) + k * (b.natAbs * b.natAbs) := by
  have scaled := crossValue_mul_le a b h
  have mean := (Nat.mul_le_mul scaled scaled).trans (mean_mul_mean_le a.natAbs b.natAbs (n - k) k)
  rw [Nat.sub_add_cancel h] at mean
  refine Nat.le_of_mul_le_mul_left (Eq.trans_le ?_ mean) positive
  ring

/-! ### The power of a whole vector -/

theorem dropWeight_power_le (a : Cpx) {n k : Nat} (h : k ≤ n) : Cpx.power (dropWeight a n k) ≤ Cpx.power a :=
  Nat.add_le_add (Nat.mul_le_mul (dropValue_natAbs_le _ h) (dropValue_natAbs_le _ h))
    (Nat.mul_le_mul (dropValue_natAbs_le _ h) (dropValue_natAbs_le _ h))

theorem crossWeight_power_le (a b : Cpx) {n k : Nat} (h : k ≤ n) (positive : 0 < n) :
    n * Cpx.power (crossWeight a b n k) ≤ (n - k) * Cpx.power a + k * Cpx.power b := by
  have re := crossValue_square_le a.re b.re h positive
  have im := crossValue_square_le a.im b.im h positive
  simp only [Cpx.power, crossWeight, Nat.mul_add]
  omega

theorem powerOf_le_powerOf {v w : Vector Cpx 12} (h : ∀ t, Cpx.power (v.get t) ≤ Cpx.power (w.get t)) : powerOf v ≤ powerOf w :=
  List.sum_le_sum fun t _ => h t

theorem powerOf_cross_le {a b v : Vector Cpx 12} {bound n k : Nat} (h : k ≤ n) (positive : 0 < n) (start : powerOf a ≤ bound)
    (goal : powerOf b ≤ bound) (steps : ∀ t, n * Cpx.power (v.get t) ≤ (n - k) * Cpx.power (a.get t) + k * Cpx.power (b.get t)) :
    powerOf v ≤ bound := by
  have total : n * powerOf v ≤ (n - k) * powerOf a + k * powerOf b := by
    simp only [powerOf, ← List.sum_map_mul_left, ← List.sum_map_add]
    exact List.sum_le_sum fun t _ => steps t
  refine Nat.le_of_mul_le_mul_left (total.trans ?_) positive
  calc (n - k) * powerOf a + k * powerOf b
      ≤ (n - k) * bound + k * bound := Nat.add_le_add (Nat.mul_le_mul_left _ start) (Nat.mul_le_mul_left _ goal)
    _ = n * bound := by rw [← Nat.add_mul, Nat.sub_add_cancel h]

/-- Settles O18. -/
theorem ramp_arithmetic_and_power : Obligations.Ramp_arithmetic_and_power := by
  refine ⟨fun a n k h => ?shrinks, fun a n positive => ?ends, fun a n k h positive nonneg => ?sign,
    fun a b n k h positive => ?larger, fun a b n positive => ⟨crossValue_first a b positive, crossValue_last a b positive⟩,
    fun a b bound n k h positive start => ⟨fun goal => ?cross, fun ramped => ?drop⟩⟩
  case shrinks =>
    rw [dropValue_natAbs a h, dropValue_natAbs a h.le]
    exact Nat.div_le_div_right (Nat.mul_le_mul_left _ (Nat.sub_le_sub_left (Nat.le_succ k) n))
  case ends =>
    have positive : (n : Int) ≠ 0 := by omega
    exact ⟨by simp [dropValue, Int.mul_tdiv_cancel a positive], dropValue_last a n⟩
  case sign => exact Int.tdiv_nonneg (mul_nonneg nonneg (by omega)) (by omega)
  case larger =>
    refine Nat.le_of_mul_le_mul_right ((crossValue_mul_le a b h).trans ?_) positive
    calc a.natAbs * (n - k) + b.natAbs * k
        ≤ max a.natAbs b.natAbs * (n - k) + max a.natAbs b.natAbs * k :=
          Nat.add_le_add (Nat.mul_le_mul_right _ (Nat.le_max_left _ _)) (Nat.mul_le_mul_right _ (Nat.le_max_right _ _))
      _ = max a.natAbs b.natAbs * n := by rw [← Nat.mul_add, Nat.sub_add_cancel h]
  case cross =>
    refine powerOf_cross_le h positive start goal fun t => ?_
    rw [get_tab]
    exact crossWeight_power_le _ _ h positive
  case drop =>
    refine (powerOf_le_powerOf fun t => ?_).trans start
    rw [get_tab]
    split
    · exact dropWeight_power_le _ h
    · exact Nat.le_refl _

end Sys2Proof.Machine
end

section
/-! PROOFS. The power of the live weights under the invariant (R28; O57). -/

namespace Sys2Proof.Machine

/-! ### READY records and their power -/

theorem isReady_iff {r : PatternRecord} : r.isReady = true ↔ ∃ h es, r = .ready h es := by
  cases r <;> simp [PatternRecord.isReady]

theorem allTowers_sum (f : Tower → Nat) : (allTowers.map f).sum = ∑ t, f t := by
  rw [Fin.sum_univ_def]
  rfl

theorem entryFor_cons (e : Entry) (es : List Entry) (t : Tower) :
    entryFor (e :: es) t = if e.tower = t then some e else entryFor es t := by
  by_cases same : e.tower = t
  · rw [if_pos same, entryFor, List.find?_cons_of_pos (by simpa using same)]
  · rw [if_neg same, entryFor, List.find?_cons_of_neg (by simpa using same), entryFor]

/-- The weight that a list of entries gives a tower. -/
def entriesWeight (es : List Entry) (t : Tower) : Cpx :=
  match entryFor es t with
  | some e => e.effective
  | none => Cpx.zero

theorem weightFor_eq (r : PatternRecord) (t : Tower) : r.weightFor t = entriesWeight r.entries t := rfl

theorem entriesWeight_cons_power_le (e : Entry) (es : List Entry) (t : Tower) :
    Cpx.power (entriesWeight (e :: es) t)
      ≤ (if e.tower = t then Cpx.power e.effective else 0) + Cpx.power (entriesWeight es t) := by
  rw [entriesWeight, entryFor_cons]
  split_ifs
  · exact Nat.le_add_right _ _
  · exact Nat.le_add_left _ _

/-- The weights of a list of entries come to no more than its raw power. -/
theorem entriesWeight_power_le (es : List Entry) : ∑ t, Cpx.power (entriesWeight es t) ≤ rawPower es := by
  induction es with
  | nil => exact (Finset.sum_eq_zero fun t _ => rfl).le
  | cons e es ih =>
    calc ∑ t, Cpx.power (entriesWeight (e :: es) t)
        ≤ ∑ t, ((if e.tower = t then Cpx.power e.effective else 0) + Cpx.power (entriesWeight es t)) :=
          Finset.sum_le_sum fun t _ => entriesWeight_cons_power_le e es t
      _ = Cpx.power e.effective + ∑ t, Cpx.power (entriesWeight es t) := by
          rw [Finset.sum_add_distrib, Finset.sum_ite_eq, if_pos (Finset.mem_univ _)]
      _ ≤ rawPower (e :: es) := Nat.add_le_add_left ih _

theorem powerOf_le_rawPower {v : Vector Cpx 12} {r : PatternRecord} (h : ∀ t, v.get t = r.weightFor t ∨ v.get t = Cpx.zero) :
    powerOf v ≤ rawPower r.entries := by
  rw [powerOf, allTowers_sum]
  refine (Finset.sum_le_sum fun t _ => ?_).trans (entriesWeight_power_le r.entries)
  rcases h t with weight | zero
  · rw [weight, weightFor_eq]
  · rw [zero]; exact Nat.zero_le _

variable {s : State}

theorem livePower_eq_zero (h : s.allZero = true) : s.livePower = 0 := by
  rw [State.livePower, allTowers_sum]
  refine Finset.sum_eq_zero fun t _ => ?_
  have zero : s.live t = Cpx.zero := by simpa using List.all_eq_true.mp h t (mem_allTowers t)
  rw [zero]; rfl

/-- What a READY record radiates is within its cap, and its cap within the ceiling. -/
theorem powerOf_le_cap (law : s.ReadyLaw) {p : Slot} (ready : (s.record p).isReady = true) {v : Vector Cpx 12}
    (h : ∀ t, v.get t = (s.record p).weightFor t ∨ v.get t = Cpx.zero) :
    ∃ g, (s.record p).header = some g ∧ powerOf v ≤ g.cap * 65536 ∧ g.cap ≤ s.settings.ceiling := by
  obtain ⟨g, es, record⟩ := isReady_iff.mp ready
  have header : (s.record p).header = some g := by rw [record]; rfl
  obtain ⟨_, ceiling, cap⟩ := law p ready g header
  exact ⟨g, header, (powerOf_le_rawPower h).trans cap, ceiling⟩

theorem powerOf_le_ceiling (law : s.ReadyLaw) {p : Slot} (ready : (s.record p).isReady = true) {v : Vector Cpx 12}
    (h : ∀ t, v.get t = (s.record p).weightFor t ∨ v.get t = Cpx.zero) : powerOf v ≤ s.settings.ceiling * 65536 := by
  obtain ⟨g, _, cap, ceiling⟩ := powerOf_le_cap law ready h
  exact cap.trans (Nat.mul_le_mul_right _ ceiling)

/-! ### The laws of the invariant by name -/

theorem State.PowerInvariant.legal (h : s.PowerInvariant) : s.settings.Legal := h.1
theorem State.PowerInvariant.entriesLaw (h : s.PowerInvariant) : s.EntriesLaw := h.2.1
theorem State.PowerInvariant.readyLaw (h : s.PowerInvariant) : s.ReadyLaw := h.2.2.1
theorem State.PowerInvariant.marksLaw (h : s.PowerInvariant) : s.MarksLaw := h.2.2.2.1
theorem State.PowerInvariant.arrayLaw (h : s.PowerInvariant) : s.ArrayLaw := h.2.2.2.2.1
theorem State.PowerInvariant.dutyLaw (h : s.PowerInvariant) : s.DutyLaw := h.2.2.2.2.2

/-! ### What is in use -/

/-- The patterns that the array state names. -/
def ArrayState.uses : ArrayState → Slot → Prop
  | .steady q, p => q = p
  | .shifting c, p => c.source = some p ∨ c.target = some p
  | _, _ => False

theorem inUse_iff {p : Slot} : s.inUse p = true ↔ s.shift.array.uses p ∨ ∃ o ∈ s.shift.queue, o.target = some p := by
  simp only [State.inUse, State.markLive, State.markSource, State.markTarget, State.markQueued, ArrayState.uses]
  cases s.shift.array <;> simp

theorem ready_of_uses (law : s.MarksLaw) {p : Slot} (uses : s.shift.array.uses p) : (s.record p).isReady = true :=
  law p (inUse_iff.mpr (.inl uses))

/-- The first half of the power law: the live weights are within the ceiling in every state of the array. -/
theorem livePower_le_ceiling (ready : s.ReadyLaw) (marks : s.MarksLaw) (arrays : s.ArrayLaw) :
    s.livePower ≤ s.settings.ceiling * 65536 := by
  obtain ⟨rest, live, contexts⟩ := arrays
  cases array : s.shift.array with
  | noPattern => rw [livePower_eq_zero (rest (by simp [State.atRest, array]))]; exact Nat.zero_le _
  | safe => rw [livePower_eq_zero (rest (by simp [State.atRest, array]))]; exact Nat.zero_le _
  | steady p =>
    exact powerOf_le_ceiling ready (ready_of_uses marks (by rw [array]; exact rfl)) (live p (by rw [array]; exact rfl))
  | shifting c =>
    obtain ⟨power, _⟩ := contexts c (by rw [array]; exact rfl)
    exact power

/-- Settles O57. -/
theorem power_law_follows : Obligations.Power_law_follows := by
  rintro s ⟨_, _, ready, marks, arrays, _⟩
  refine ⟨livePower_le_ceiling ready marks arrays, fun p hp g hg => ?_⟩
  have uses : s.shift.array.uses p := by
    cases array : s.shift.array with
    | steady q => rw [array] at hp; exact Option.some.inj hp
    | _ => rw [array] at hp; cases hp
  obtain ⟨_, header, cap, _⟩ := powerOf_le_cap ready (ready_of_uses marks uses) (arrays.2.1 p hp)
  rw [Option.mem_def.mp hg] at header
  cases header
  exact cap

end Sys2Proof.Machine
end

section
/-! PROOFS. The invariant that the power law rests on, kept by every step (O56). -/

namespace Sys2Proof.Machine

variable {s : State}

/-! ### Writes of the array state -/

/-- The parts of the invariant that the array state and the duty do not enter. -/
theorem setArray_invariant (h : s.PowerInvariant) {a : ArrayState} (uses : ∀ p, a.uses p → (s.record p).isReady = true)
    (arrays : (s.setArray a).ArrayLaw) {d : Duty} (duty : ((s.setArray a).setDuty d).DutyLaw) :
    ((s.setArray a).setDuty d).PowerInvariant := by
  obtain ⟨legal, entries, ready, marks, _, _⟩ := h
  refine ⟨legal, entries, ready, fun p used => ?_, arrays, duty⟩
  rcases inUse_iff.mp used with array | queued
  · exact uses p array
  · exact marks p (inUse_iff.mpr (.inr queued))

theorem dutyLaw_of_none (h : s.monitor.duty = .none) : s.DutyLaw := fun p => by rw [h]; exact ⟨nofun, nofun⟩

/-- No duty stands in a transition outside VERIFY (R84). -/
theorem duty_none_of_shifting (duty : s.DutyLaw) {c : Context} (array : s.shift.array = .shifting c)
    (phase : c.phase ≠ .verify) : s.monitor.duty = .none := by
  cases d : s.monitor.duty with
  | none => rfl
  | steady p =>
    have steady := (duty p).1 d
    rw [array] at steady
    cases steady
  | verify p =>
    obtain ⟨b, context, verify, _⟩ := (duty p).2 d
    rw [array] at context
    cases context
    exact absurd verify phase

theorem arrayLaw_of_shifting {c : Context} (array : s.shift.array = .shifting c) (law : s.ContextLaw c) : s.ArrayLaw := by
  refine ⟨fun rest => ?_, fun p hp => ?_, fun d hd => ?_⟩
  · simp [State.atRest, array] at rest
  · rw [array] at hp; cases hp
  · rw [array] at hd; cases hd; exact law

theorem context_of_shifting (arrays : s.ArrayLaw) {c : Context} (array : s.shift.array = .shifting c) : s.ContextLaw c :=
  arrays.2.2 c (by rw [array]; exact rfl)

theorem arrayLaw_of_rest {a : ArrayState} (rest : a = .safe ∨ a = .noPattern) (zero : s.allZero = true) :
    (s.setArray a).ArrayLaw := by
  refine ⟨fun _ => zero, fun p hp => ?_, fun c hc => ?_⟩
  · rcases rest with rfl | rfl <;> cases hp
  · rcases rest with rfl | rfl <;> cases hc

theorem not_uses_of_rest {a : ArrayState} (rest : a = .safe ∨ a = .noPattern) (p : Slot) : ¬a.uses p := by
  rcases rest with rfl | rfl <;> exact id

theorem arrayLaw_of_steady {p : Slot} (radiates : s.RadiatesAtMost p) : (s.setArray (.steady p)).ArrayLaw := by
  refine ⟨fun rest => ?_, fun q hq => ?_, fun c hc => ?_⟩
  · cases rest
  · cases hq; exact radiates
  · cases hc

/-- A context that begins meets its law. -/
theorem contextLaw_of_begins (h : s.PowerInvariant) {c : Context} (target : ∀ p ∈ c.target, (s.record p).isReady = true)
    (begins : s.Begins c) : s.ContextLaw c := by
  obtain ⟨legal, entries, ready, marks, arrays, _⟩ := h
  have power := livePower_le_ceiling ready marks arrays
  refine ⟨power, by rw [begins.start]; exact power, fun ramp => ?_, begins.toZero, fun p hp => ⟨fun cross => ?_, fun verify => ?_⟩⟩
  · rcases ramp with drop | cross
    · obtain ⟨count, total⟩ := begins.drop drop
      obtain ⟨_, _, _, length, _⟩ := legal
      simp only [Context.Ramping, count, total, Option.getD_some]
      exact length.1
    · obtain ⟨count, p, hp, total, _⟩ := begins.cross cross
      obtain ⟨g, es, record⟩ := isReady_iff.mp (target p hp)
      have header : (s.record p).header = some g := by rw [record]; rfl
      obtain ⟨⟨_, ramp, _⟩, _⟩ := entries p g header
      simp only [Context.Ramping, count, total g header, Option.getD_some]
      exact ramp.1
  · obtain ⟨_, q, hq, _, goal⟩ := begins.cross cross
    rw [Option.mem_def.mp hp] at hq
    cases hq
    exact goal
  · exact absurd verify begins.verify

theorem ready_of_sourced (h : s.PowerInvariant) {source : Option Slot} (sourced : s.Sourced source) {p : Slot}
    (hp : source = some p) : (s.record p).isReady = true := by
  obtain ⟨_, _, _, marks, _, duty⟩ := h
  rcases sourced p hp with live | origin | watched
  · exact marks p (by simp [State.inUse, live])
  · exact marks p (by simp [State.inUse, origin])
  · exact ready_of_uses marks (by rw [(duty p).1 watched]; exact rfl)

theorem enter_invariant (h : s.PowerInvariant) {c : Context} (source : s.Sourced c.source)
    (target : ∀ p ∈ c.target, (s.record p).isReady = true) (begins : s.Begins c) :
    ((s.setArray (.shifting c)).setDuty .none).PowerInvariant :=
  setArray_invariant h (fun p (uses : (ArrayState.shifting c).uses p) =>
      Or.elim (show c.source = some p ∨ c.target = some p from uses) (ready_of_sourced h source) (target p))
    (arrayLaw_of_shifting rfl (contextLaw_of_begins h target begins)) (dutyLaw_of_none rfl)

theorem ready_of_target (h : s.PowerInvariant) {c : Context} (array : s.shift.array = .shifting c) {p : Slot}
    (target : c.target = some p) : (s.record p).isReady = true :=
  ready_of_uses h.marksLaw (by rw [array]; exact .inr target)

/-- A new context of the transition in flight, with its pattern slots. -/
theorem shifting_invariant (h : s.PowerInvariant) {b c : Context} (array : s.shift.array = .shifting b)
    (source : c.source = b.source) (target : c.target = b.target) (law : s.ContextLaw c)
    (duty : (s.setArray (.shifting c)).DutyLaw) : (s.setArray (.shifting c)).PowerInvariant :=
  setArray_invariant (d := s.monitor.duty) h
    (fun p uses => ready_of_uses h.marksLaw (by
      rw [array]
      show b.source = some p ∨ b.target = some p
      rw [← source, ← target]
      exact uses))
    (arrayLaw_of_shifting rfl law) duty

theorem cross_invariant (h : s.PowerInvariant) {b c : Context} (array : s.shift.array = .shifting b)
    (switch : b.phase = .switch) (source : c.source = b.source) (target : c.target = b.target) (begins : s.Begins c) :
    (s.setArray (.shifting c)).PowerInvariant := by
  have ready : ∀ p ∈ c.target, (s.record p).isReady = true := fun p hp => ready_of_target h array (target ▸ hp)
  have duty := duty_none_of_shifting h.dutyLaw array (by rw [switch]; decide)
  exact shifting_invariant h array source target (contextLaw_of_begins h ready begins) (dutyLaw_of_none duty)

theorem contextLaw_of_continues {b c : Context} (law : s.ContextLaw b) (continues : b.Continues c) : s.ContextLaw c := by
  obtain ⟨live, start, ramping, toZero, goal⟩ := law
  obtain ⟨_, target, phase, stepCount, stepTotal, endB, power⟩ := continues
  simp only [State.ContextLaw, Context.Ramping, target, phase, stepCount, stepTotal, endB]
  exact ⟨live, power.trans start, ramping, toZero, goal⟩

theorem adjust_invariant (h : s.PowerInvariant) {b c : Context} (array : s.shift.array = .shifting b)
    (continues : b.Continues c) : (s.setArray (.shifting c)).PowerInvariant := by
  obtain ⟨_, _, _, _, arrays, duty⟩ := id h
  refine shifting_invariant h array continues.source continues.target
    (contextLaw_of_continues (context_of_shifting arrays array) continues) fun p => ⟨fun steady => ?_, fun verify => ?_⟩
  · have := (duty p).1 steady
    rw [array] at this
    cases this
  · obtain ⟨d, context, phase, target⟩ := (duty p).2 verify
    rw [array] at context
    cases context
    exact ⟨c, rfl, continues.phase.trans phase, continues.target.trans target⟩

theorem rest_invariant (h : s.PowerInvariant) {c : Context} {a : ArrayState} (array : s.shift.array = .shifting c)
    (drop : c.phase = .drop) (zero : s.allZero = true) (rest : a = .safe ∨ a = .noPattern) : (s.setArray a).PowerInvariant := by
  have duty := duty_none_of_shifting h.dutyLaw array (by rw [drop]; decide)
  exact setArray_invariant (d := s.monitor.duty) h (fun p uses => absurd uses (not_uses_of_rest rest p))
    (arrayLaw_of_rest rest zero) (dutyLaw_of_none duty)

theorem succeed_invariant (h : s.PowerInvariant) {c : Context} {p : Slot} (array : s.shift.array = .shifting c)
    (verify : c.phase = .verify) (target : c.target = some p) :
    ((s.setArray (.steady p)).setDuty (.steady p)).PowerInvariant := by
  obtain ⟨_, _, _, _, goal⟩ := context_of_shifting h.arrayLaw array
  refine setArray_invariant h (fun q uses => ?_) (arrayLaw_of_steady ((goal p target).2 verify)) fun q => ⟨fun duty => ?_, nofun⟩
  · cases uses; exact ready_of_target h array target
  · cases duty; rfl

/-! ### A ramp step (R64, R66, R70) -/

/-- The weights of one ramp step stay within a power bound on both ends of the ramp. -/
theorem stepWeights_power_le {c : Context} {n k bound : Nat} (total : c.stepTotal = some n) (le : k ≤ n) (positive : 0 < n)
    (start : powerOf c.startA ≤ bound) (goal : c.phase = .cross → powerOf c.endB ≤ bound) :
    powerOf (tab (stepWeights c k)) ≤ bound := by
  by_cases cross : c.phase = .cross
  · refine powerOf_cross_le le positive start (goal cross) fun t => ?_
    rw [get_tab, stepWeights, cross, total]
    exact crossWeight_power_le _ _ le positive
  · refine (powerOf_le_powerOf fun t => ?_).trans start
    rw [get_tab, stepWeights]
    split
    · next h => exact absurd h cross
    · rw [total, Option.getD_some]
      split
      · exact dropWeight_power_le _ le
      · exact Nat.le_refl _

theorem writeAllWeights_power_le (f : Tower → Cpx) : (writeAllWeights f s).livePower ≤ powerOf (tab f) := by
  refine powerOf_le_powerOf fun t => ?_
  show Cpx.power ((writeAllWeights f s).live t) ≤ _
  rw [writeAllWeights_live, get_tab]
  split
  · exact Nat.zero_le _
  · exact Nat.le_refl _

theorem writeAllWeights_invariant {u : State} (f : Tower → Cpx) (h : u.settings.Legal ∧ u.EntriesLaw ∧ u.ReadyLaw ∧ u.MarksLaw)
    (arrays : (writeAllWeights f u).ArrayLaw) (duty : u.DutyLaw) : (writeAllWeights f u).PowerInvariant := by
  obtain ⟨legal, entries, ready, marks⟩ := h
  exact ⟨legal, entries, ready, marks, arrays, duty⟩

/-- The array after a ramp step names no pattern that it did not name before. -/
theorem uses_of_stepsTo {c : Context} {a : ArrayState} (steps : c.StepsTo a) {p : Slot} (uses : a.uses p) :
    (ArrayState.shifting c).uses p := by
  cases steps with
  | rest _ _ rest => exact absurd uses (not_uses_of_rest rest p)
  | _ => exact uses

/-- The ramp of a context in DROP or CROSS has a number of steps, not all of them taken, and both its ends are within the
ceiling. -/
theorem ramp_of_contextLaw (h : s.PowerInvariant) {c : Context} (array : s.shift.array = .shifting c)
    (ramp : c.phase = .drop ∨ c.phase = .cross) : ∃ n, c.stepTotal = some n ∧ c.stepCount + 1 ≤ n
      ∧ (c.phase = .cross → powerOf c.endB ≤ s.settings.ceiling * 65536) := by
  obtain ⟨_, _, ramping, toZero, goal⟩ := context_of_shifting h.arrayLaw array
  have running := ramping ramp
  cases total : c.stepTotal with
  | none => simp [Context.Ramping, total] at running
  | some n =>
    rw [Context.Ramping, total] at running
    refine ⟨n, rfl, running, fun cross => ?_⟩
    cases target : c.target with
    | none => rw [toZero target] at cross; cases cross
    | some p =>
      exact powerOf_le_ceiling h.readyLaw (ready_of_target h array target) fun t => .inl ((goal p target).1 cross t)

theorem step_invariant (h : s.PowerInvariant) {c : Context} {a : ArrayState} (array : s.shift.array = .shifting c)
    (ramp : c.phase = .drop ∨ c.phase = .cross) (steps : c.StepsTo a) :
    (writeAllWeights (stepWeights c (c.stepCount + 1)) (s.setArray a)).PowerInvariant := by
  obtain ⟨n, total, left, endPower⟩ := ramp_of_contextLaw h array ramp
  have positive : 0 < n := by omega
  obtain ⟨legal, entries, ready, marks, arrays, duty⟩ := id h
  obtain ⟨_, start, _, toZero, goal⟩ := context_of_shifting arrays array
  have noDuty : s.monitor.duty = .none :=
    duty_none_of_shifting duty array (by rcases ramp with phase | phase <;> rw [phase] <;> decide)
  have laws : (s.setArray a).settings.Legal ∧ (s.setArray a).EntriesLaw ∧ (s.setArray a).ReadyLaw ∧ (s.setArray a).MarksLaw := by
    obtain ⟨legal, entries, ready, marks, _⟩ := h
    refine ⟨legal, entries, ready, fun p used => ?_⟩
    rcases inUse_iff.mp used with named | queued
    · exact ready_of_uses (s := s) marks (by rw [array]; exact uses_of_stepsTo steps named)
    · exact marks p (inUse_iff.mpr (.inr queued))
  have power : (writeAllWeights (stepWeights c (c.stepCount + 1)) (s.setArray a)).livePower ≤ s.settings.ceiling * 65536 :=
    (writeAllWeights_power_le _).trans (stepWeights_power_le total left positive start endPower)
  refine writeAllWeights_invariant _ laws ?_ (dutyLaw_of_none noDuty)
  cases steps with
  | on more =>
    rw [total, Option.getD_some] at more
    refine arrayLaw_of_shifting rfl ⟨power, start, fun _ => ?_, toZero, fun p hp => ⟨(goal p hp).1, fun verify => ?_⟩⟩
    case refine_2 =>
      have phase : c.phase = .verify := verify
      rcases ramp with drop | cross
      · rw [drop] at phase; cases phase
      · rw [cross] at phase; cases phase
    show c.stepCount + 1 < c.stepTotal.getD 0
    rw [total]
    exact more
  | switch last target drop =>
    refine arrayLaw_of_shifting rfl ⟨power, start, ?_, ?_, fun p hp => ⟨nofun, nofun⟩⟩
    · rintro (phase | phase) <;> cases phase
    · exact fun none => absurd (target.symm.trans none) nofun
  | @verify p last target cross =>
    refine arrayLaw_of_shifting rfl ⟨power, start, ?_, ?_, fun q hq => ⟨nofun, fun _ t => ?_⟩⟩
    · rintro (phase | phase) <;> cases phase
    · exact fun none => absurd (target.symm.trans none) nofun
    · have full : c.stepCount + 1 = n := by rw [total, Option.getD_some] at last; omega
      rw [writeAllWeights_live]
      split
      · exact .inr rfl
      · refine .inl (Eq.trans ?_ ((goal q hq).1 cross t))
        rw [stepWeights, cross, total, full]
        exact congrArg₂ Cpx.mk (crossValue_last _ _ positive) (crossValue_last _ _ positive)
  | rest last target rest =>
    have full : c.stepCount + 1 = n := by rw [total, Option.getD_some] at last; omega
    have zero : (writeAllWeights (stepWeights c (c.stepCount + 1)) (s.setArray a)).allZero = true := by
      refine List.all_eq_true.mpr fun t _ => beq_iff_eq.mpr ?_
      rw [writeAllWeights_live]
      split
      · rfl
      · rw [stepWeights, toZero target, total, full, target]
        exact congrArg₂ Cpx.mk (dropValue_last _ _) (dropValue_last _ _)
    exact arrayLaw_of_rest (s := writeAllWeights (stepWeights c (c.stepCount + 1)) (s.setArray a)) rest zero

end Sys2Proof.Machine
end

section
/-! PROOFS. The invariant of O56 under the writes of the configuration, the queue and the weights, and under every step. -/

namespace Sys2Proof.Machine

variable {s : State}

/-! ### What the array names -/

theorem mem_allSlots (p : Slot) : p ∈ allSlots := by revert p; decide

theorem mem_context_iff {a : ArrayState} {c : Context} : c ∈ a.context ↔ a = .shifting c := by
  cases a <;> simp [ArrayState.context]

theorem mem_livePattern_iff {a : ArrayState} {p : Slot} : p ∈ a.livePattern ↔ a = .steady p := by
  cases a <;> simp [ArrayState.livePattern]

theorem markLive_iff {p : Slot} : s.markLive p = true ↔ s.shift.array = .steady p := by
  unfold State.markLive
  split <;> simp_all

theorem used_of_live {p : Slot} (array : s.shift.array = .steady p) : s.inUse p = true :=
  inUse_iff.mpr (.inl (by rw [array]; exact rfl))

theorem used_of_target {c : Context} (array : s.shift.array = .shifting c) {p : Slot} (target : c.target = some p) :
    s.inUse p = true := inUse_iff.mpr (.inl (by rw [array]; exact .inr target))

/-! ### Writes that leave the array -/

theorem powerInvariant_congr {t : State} (h : s.PowerInvariant) (settings : t.settings = s.settings)
    (patterns : t.patterns = s.patterns) (live : t.engine.live = s.engine.live) (array : t.shift.array = s.shift.array)
    (queue : t.shift.queue = s.shift.queue) (duty : t.monitor.duty = s.monitor.duty) : t.PowerInvariant := by
  simp only [State.PowerInvariant, State.EntriesLaw, State.ReadyLaw, State.MarksLaw, State.ArrayLaw, State.DutyLaw,
    State.ContextLaw, State.RadiatesAtMost, State.livePower, State.live, State.atRest, State.allZero, inUse_iff,
    State.record, settings, patterns, live, array, queue, duty] at h ⊢
  exact h

/-- A queue of orders whose patterns are all marked already. -/
theorem setQueue_invariant (h : s.PowerInvariant) {q : List Order}
    (ready : ∀ o ∈ q, ∀ p, o.target = some p → (s.record p).isReady = true) : (s.setQueue q).PowerInvariant := by
  obtain ⟨legal, entries, readyLaw, marks, arrays, duty⟩ := h
  refine ⟨legal, entries, readyLaw, fun p used => ?_, arrays, duty⟩
  rcases inUse_iff.mp used with array | ⟨o, ho, target⟩
  · exact marks p (inUse_iff.mpr (.inl array))
  · exact ready o ho p target

theorem ready_of_queued (h : s.PowerInvariant) {o : Order} (ho : o ∈ s.shift.queue) {p : Slot} (target : o.target = some p) :
    (s.record p).isReady = true := h.marksLaw p (inUse_iff.mpr (.inr ⟨o, ho, target⟩))

theorem enqueue_invariant (h : s.PowerInvariant) {o : Order} {p : Slot} (target : o.target = some p)
    (ready : (s.record p).isReady = true) : (s.setQueue (s.shift.queue ++ [o])).PowerInvariant := by
  refine setQueue_invariant h fun x hx q hq => ?_
  rcases List.mem_append.mp hx with old | new
  · exact ready_of_queued h old hq
  · rw [List.mem_singleton.mp new, target] at hq
    cases hq
    exact ready

/-- Live weights that are each what they were or (0, 0). -/
theorem setLive_invariant (h : s.PowerInvariant) {v : Vector Cpx 12}
    (quieter : ∀ t, v.get t = s.live t ∨ v.get t = Cpx.zero) : (s.setLive v).PowerInvariant := by
  obtain ⟨legal, entries, ready, marks, ⟨rest, live, contexts⟩, duty⟩ := h
  have power : (s.setLive v).livePower ≤ s.livePower := powerOf_le_powerOf fun t => by
    rcases quieter t with same | zero
    · exact (congrArg Cpx.power same).le
    · exact (congrArg Cpx.power zero).trans_le (Nat.zero_le _)
  have radiates : ∀ p, s.RadiatesAtMost p → (s.setLive v).RadiatesAtMost p := fun p radiates t => by
    rcases quieter t with same | zero
    · exact (radiates t).imp same.trans same.trans
    · exact .inr zero
  refine ⟨legal, entries, ready, marks, ⟨fun still => ?_, fun p hp => radiates p (live p hp), fun c hc => ?_⟩, duty⟩
  · refine List.all_eq_true.mpr fun t ht => ?_
    rcases quieter t with same | zero
    · exact beq_iff_eq.mpr (same.trans (beq_iff_eq.mp (List.all_eq_true.mp (rest still) t ht)))
    · exact beq_iff_eq.mpr zero
  · obtain ⟨below, start, ramping, toZero, goal⟩ := contexts c hc
    exact ⟨power.trans below, start, ramping, toZero, fun p hp => ⟨(goal p hp).1, fun verify => radiates p ((goal p hp).2 verify)⟩⟩

theorem setDuty_invariant (h : s.PowerInvariant) {d : Duty} (duty : (s.setDuty d).DutyLaw) : (s.setDuty d).PowerInvariant := by
  obtain ⟨legal, entries, ready, marks, arrays, _⟩ := h
  exact ⟨legal, entries, ready, marks, arrays, duty⟩

theorem verifyDuty_invariant (h : s.PowerInvariant) {c : Context} {p : Slot} (array : s.shift.array = .shifting c)
    (verify : c.phase = .verify) (target : c.target = some p) : (s.setDuty (.verify p)).PowerInvariant := by
  refine setDuty_invariant h fun q => ⟨nofun, fun duty => ?_⟩
  cases duty
  exact ⟨c, by rw [setDuty_shift, array]; rfl, verify, target⟩

/-! ### Settings -/

theorem setSettings_invariant (h : s.PowerInvariant) {x : Settings} (legal : x.Legal)
    (size : x.arraySize = s.settings.arraySize) (ceiling : x.ceiling = s.settings.ceiling) :
    (s.setSettings x).PowerInvariant := by
  obtain ⟨_, entries, ready, marks, arrays, duty⟩ := h
  simp only [State.ArrayLaw, State.ContextLaw, ← ceiling] at arrays
  refine ⟨legal, fun p => ?_, fun p => ?_, marks, arrays, duty⟩
  · rw [setSettings_settings, size]; exact entries p
  · rw [setSettings_settings, ceiling]; exact ready p

theorem cap_le_of_capAbove {v : Nat} (h : capAbove s v = false) {p : Slot} {g : Header} {es : List Entry}
    (record : s.record p = .ready g es) : g.cap ≤ v := by
  have below := List.any_eq_false.mp h p (mem_allSlots p)
  simpa [record] using below

theorem tower_lt_of_entryAbove {v : Nat} (h : entryAbove s v = false) {p : Slot} {e : Entry} (he : e ∈ (s.record p).entries) :
    e.tower.val < v := by
  have none := List.any_eq_false.mp h p (mem_allSlots p)
  have inside := List.any_eq_false.mp (Bool.eq_false_of_not_eq_true none) e he
  simpa using inside

theorem ceiling_invariant (h : s.PowerInvariant) {v : Nat} (rest : s.shifting = false) (range : v ≤ 65535)
    (caps : capAbove s v = false) : (s.setSettings { s.settings with ceiling := v }).PowerInvariant := by
  obtain ⟨⟨size, rate, period, drop, _, others⟩, entries, ready, marks, ⟨still, live, _⟩, duty⟩ := h
  refine ⟨⟨size, rate, period, drop, range, others⟩, entries, fun p isReady g hg => ?_, marks,
    ⟨still, live, fun c hc => ?_⟩, duty⟩
  · obtain ⟨reference, _, power⟩ := ready p isReady g hg
    obtain ⟨g', es, record⟩ := isReady_iff.mp isReady
    have same : (s.record p).header = some g' := congrArg PatternRecord.header record
    cases same.symm.trans hg
    exact ⟨reference, cap_le_of_capAbove caps record, power⟩
  · have array : s.shift.array = .shifting c := mem_context_iff.mp hc
    simp [State.shifting, array] at rest

theorem resize_invariant (h : s.PowerInvariant) {v : Nat} (range : 2 ≤ v ∧ v ≤ 12) (above : entryAbove s v = false) :
    (resizeArray v s).PowerInvariant := by
  by_cases same : v = s.settings.arraySize
  · simpa [resizeArray, same] using h
  obtain ⟨⟨_, others⟩, entries, ready, marks, arrays, duty⟩ := h
  unfold resizeArray
  rw [if_neg same]
  refine ⟨⟨range, others⟩, fun p g hg => ?_, ready, marks, arrays, duty⟩
  obtain ⟨header, sorted, legal⟩ := entries p g hg
  refine ⟨header, sorted, fun e he => ?_⟩
  obtain ⟨_, fields⟩ := legal e he
  exact ⟨tower_lt_of_entryAbove above he, fields⟩

/-! ### Patterns -/

/-- A change of one pattern record that is not READY afterwards, or not READY before, so that no law but the record's own
reads it. -/
theorem setRecord_invariant (h : s.PowerInvariant) {p : Slot} {r : PatternRecord} (legal : r.Legal s.settings.arraySize)
    (unused : (s.record p).isReady = true → s.inUse p = false) (ready : r.ReadyLegal s.settings.ceiling) :
    (s.setRecord p r).PowerInvariant := by
  have free : ∀ q, s.inUse q = true → (s.setRecord p r).record q = s.record q := fun q used => by
    rw [setRecord_record, if_neg]
    rintro rfl
    rw [unused (h.marksLaw q used)] at used
    cases used
  have weights : ∀ q, s.inUse q = true → ∀ t, ((s.setRecord p r).record q).weightFor t = (s.record q).weightFor t :=
    fun q used t => by rw [free q used]
  obtain ⟨settings, entries, readyLaw, marks, ⟨rest, live, contexts⟩, duty⟩ := h
  refine ⟨settings, fun q => ?_, fun q => ?_, fun q used => ?_, ⟨rest, fun q hq => ?_, fun c hc => ?_⟩, duty⟩
  · rw [setRecord_record]
    split
    · exact legal
    · exact entries q
  · rw [setRecord_record]
    split
    · exact ready
    · exact readyLaw q
  · have used : s.inUse q = true := used
    rw [free q used]
    exact marks q used
  · have used : s.inUse q = true := used_of_live (mem_livePattern_iff.mp hq)
    intro t
    rw [weights q used]
    exact live q hq t
  · obtain ⟨power, start, ramping, toZero, goal⟩ := contexts c hc
    refine ⟨power, start, ramping, toZero, fun q hq => ?_⟩
    have used : s.inUse q = true := used_of_target (mem_context_iff.mp hc) hq
    obtain ⟨cross, verify⟩ := goal q hq
    refine ⟨fun phase t => ?_, fun phase t => ?_⟩
    · rw [weights q used]; exact cross phase t
    · rw [weights q used]; exact verify phase t

theorem entryFor_putEntry (e : Entry) (es : List Entry) (t : Tower) :
    entryFor (putEntry e es) t = if e.tower = t then some e else entryFor es t := by
  induction es with
  | nil => rw [putEntry, entryFor_cons]
  | cons x xs ih =>
    unfold putEntry
    split
    · next same => rw [entryFor_cons, entryFor_cons, same]; split_ifs <;> rfl
    · next other =>
      split
      · rw [entryFor_cons]
      · rw [entryFor_cons, ih, entryFor_cons]
        split_ifs with hx he
        · exact absurd (hx.trans he.symm) other
        · rfl
        · rfl
        · rfl

theorem trimmed_legal {n : Nat} {g : Header} {e : Entry} (legal : e.Legal n g) (delta : Cpx) :
    (trimmed g.trimLimit e delta).Legal n g := by
  obtain ⟨tower, re, im, xre, xim, tolerance, _⟩ := legal
  exact ⟨tower, re, im, xre, xim, tolerance, clampTrim_natAbs_le _ _, clampTrim_natAbs_le _ _⟩

/-- The laws that no weight and no array state enter, with one READY record replaced by another of the same header. -/
theorem readyRecord_laws (h : s.PowerInvariant) {p : Slot} {g : Header} {fs : List Entry}
    (legal : (PatternRecord.ready g fs).Legal s.settings.arraySize)
    (ready : (PatternRecord.ready g fs).ReadyLegal s.settings.ceiling) :
    (s.setRecord p (.ready g fs)).settings.Legal ∧ (s.setRecord p (.ready g fs)).EntriesLaw
      ∧ (s.setRecord p (.ready g fs)).ReadyLaw ∧ (s.setRecord p (.ready g fs)).MarksLaw := by
  obtain ⟨settings, entries, readyLaw, marks, _⟩ := h
  refine ⟨settings, fun q => ?_, fun q => ?_, fun q used => ?_⟩
  · rw [setRecord_record]
    split
    · exact legal
    · exact entries q
  · rw [setRecord_record]
    split
    · exact ready
    · exact readyLaw q
  · rw [setRecord_record]
    split
    · rfl
    · exact marks q used

theorem entriesWeight_putEntry (e : Entry) (es : List Entry) (t : Tower) :
    entriesWeight (putEntry e es) t = if e.tower = t then e.effective else entriesWeight es t := by
  rw [entriesWeight, entryFor_putEntry]
  split_ifs <;> rfl

/-- An array that does not name the pattern whose record changes. -/
theorem setRecord_arrayLaw (h : s.ArrayLaw) {p : Slot} (live : s.shift.array ≠ .steady p)
    (target : ∀ c, s.shift.array = .shifting c → c.target ≠ some p) (r : PatternRecord) : (s.setRecord p r).ArrayLaw := by
  obtain ⟨rest, radiates, contexts⟩ := h
  have other : ∀ q, q ≠ p → ∀ t, ((s.setRecord p r).record q).weightFor t = (s.record q).weightFor t := fun q ne t => by
    rw [setRecord_record, if_neg ne]
  refine ⟨rest, fun q hq t => ?_, fun c hc => ?_⟩
  · rw [other q (by rintro rfl; exact live (mem_livePattern_iff.mp hq))]
    exact radiates q hq t
  · obtain ⟨power, start, ramping, toZero, goal⟩ := contexts c hc
    refine ⟨power, start, ramping, toZero, fun q hq => ?_⟩
    have weights := other q (by rintro rfl; exact target c (mem_context_iff.mp hc) hq)
    obtain ⟨cross, verify⟩ := goal q hq
    refine ⟨fun phase t => ?_, fun phase t => ?_⟩
    · rw [weights]; exact cross phase t
    · rw [weights]; exact verify phase t

/-- A trim of the live pattern in STEADY writes the trimmed tower's live weight with its entry (R16). -/
theorem liveTrim_arrayLaw (h : s.ArrayLaw) {p : Slot} (live : s.shift.array = .steady p) {g : Header} {es : List Entry}
    (old : s.record p = .ready g es) (e : Entry) :
    (writeWeight e.tower e.effective (s.setRecord p (.ready g (putEntry e es)))).ArrayLaw := by
  have radiates := h.2.1 p (mem_livePattern_iff.mpr live)
  refine ⟨fun rest => ?_, fun q hq t => ?_, fun c hc => ?_⟩
  · have resting : s.atRest = true := rest
    simp [State.atRest, live] at resting
  · have same : s.shift.array = .steady q := mem_livePattern_iff.mp hq
    cases live.symm.trans same
    have record : (writeWeight e.tower e.effective (s.setRecord p (.ready g (putEntry e es)))).record p
        = .ready g (putEntry e es) := (setRecord_record s p p _).trans (if_pos rfl)
    have weight := radiates t
    rw [record, writeWeight_live, weightFor_eq]
    rw [old, weightFor_eq] at weight
    show _ = entriesWeight (putEntry e es) t ∨ _
    rw [entriesWeight_putEntry]
    by_cases trimmed : t = e.tower
    · rw [if_pos trimmed, if_pos trimmed.symm]
      split
      · exact .inr rfl
      · exact .inl rfl
    · rw [if_neg trimmed, if_neg (Ne.symm trimmed)]
      exact weight
  · have shifting : s.shift.array = .shifting c := mem_context_iff.mp hc
    rw [live] at shifting
    cases shifting

theorem collides_eq_false_iff {p : Slot} :
    s.collides p = false ↔ ∀ c, s.shift.array = .shifting c → c.source ≠ some p ∧ c.target ≠ some p := by
  simp only [State.collides, State.markSource, State.markTarget]
  cases s.shift.array <;> simp

/-- A trim of a READY pattern that no transition in flight is from or to (R15, R16). -/
theorem trim_invariant (h : s.PowerInvariant) {p : Slot} {g : Header} {es : List Entry} {e : Entry} {delta : Cpx}
    (old : s.record p = .ready g es) (entry : e ∈ es) (free : s.collides p = false)
    (cap : rawPower (putEntry (trimmed g.trimLimit e delta) es) ≤ g.cap * 65536) :
    (applyLiveTrim p (trimmed g.trimLimit e delta)
      (s.setRecord p (.ready g (putEntry (trimmed g.trimLimit e delta) es)))).PowerInvariant := by
  obtain ⟨header, sorted, entries⟩ := PatternRecord.ready_legal.mp (old ▸ h.entriesLaw p)
  have legal : (PatternRecord.ready g (putEntry (trimmed g.trimLimit e delta) es)).Legal s.settings.arraySize := by
    refine PatternRecord.ready_legal.mpr ⟨header, putEntry_pairwise sorted, fun x hx => ?_⟩
    rcases mem_putEntry hx with rfl | hx
    · exact trimmed_legal (entries e entry) delta
    · exact entries x hx
  have ready : (PatternRecord.ready g (putEntry (trimmed g.trimLimit e delta) es)).ReadyLegal s.settings.ceiling := by
    intro _ g' hg'
    cases hg'
    obtain ⟨⟨t, reference, found⟩, ceiling, _⟩ := h.readyLaw p (by rw [old]; rfl) g (by rw [old]; rfl)
    refine ⟨⟨t, reference, ?_⟩, ceiling, cap⟩
    rw [old] at found
    show (entryFor (putEntry _ es) t).isSome = true
    rw [entryFor_putEntry]
    split
    · rfl
    · exact found
  obtain ⟨settings, entriesLaw, readyLaw, marks⟩ := readyRecord_laws h legal ready
  unfold applyLiveTrim
  split
  · next live =>
    exact ⟨settings, entriesLaw, readyLaw, marks, liveTrim_arrayLaw h.arrayLaw (markLive_iff.mp live) old _, h.dutyLaw⟩
  · next other =>
    exact ⟨settings, entriesLaw, readyLaw, marks, setRecord_arrayLaw h.arrayLaw (fun live => other (markLive_iff.mpr live))
      (fun c array => (collides_eq_false_iff.mp free c array).2) _, h.dutyLaw⟩

/-! ### Every write and every step -/

theorem powerInvariant_of_rest {u : State} (legal : u.settings.Legal) (entries : u.EntriesLaw) (ready : u.ReadyLaw)
    (array : u.shift.array = .noPattern) (queue : u.shift.queue = []) (live : ∀ t, u.live t = Cpx.zero)
    (duty : u.monitor.duty = .none) : u.PowerInvariant := by
  refine ⟨legal, entries, ready, fun p used => ?_, ⟨fun _ => ?_, fun p hp => ?_, fun c hc => ?_⟩, dutyLaw_of_none duty⟩
  · rcases inUse_iff.mp used with named | ⟨o, ho, _⟩
    · rw [array] at named; exact named.elim
    · rw [queue] at ho; cases ho
  · exact List.all_eq_true.mpr fun t _ => beq_iff_eq.mpr (live t)
  · rw [array] at hp; cases hp
  · rw [array] at hc; cases hc

theorem unitReset_invariant (h : s.PowerInvariant) : (unitReset s).PowerInvariant :=
  powerInvariant_of_rest h.legal h.entriesLaw h.readyLaw rfl rfl (fun t => get_replicate _ t) rfl

theorem powerOn_invariant (levels : BitVec 4) (cs : List Instr) :
    ({ State.powerOn levels with pending := cs } : State).PowerInvariant := by
  have empty : ∀ p, ({ State.powerOn levels with pending := cs } : State).record p = .empty := fun p => get_replicate _ p
  refine powerInvariant_of_rest initial_settings_legal (fun p => ?_) (fun p ready => ?_) rfl rfl (fun t => get_replicate _ t) rfl
  · rw [empty p]; exact PatternRecord.empty_legal _
  · rw [empty p] at ready; cases ready

theorem Write.keeps_powerInvariant {s t : State} (w : Write s t) (h : s.PowerInvariant) : t.PowerInvariant := by
  cases w with
  | elsewhere same =>
    exact powerInvariant_congr h same.settings same.patterns same.live same.array same.queue same.duty
  | setting legal size ceiling => exact setSettings_invariant h (legal h.legal) size ceiling
  | ceiling rest range caps => exact ceiling_invariant h rest range caps
  | resize _ range entries => exact resize_invariant h range entries
  | record legal unused ready => exact setRecord_invariant h (legal h.entriesLaw) unused fun isReady => ready isReady isReady
  | trim old entry free cap => exact trim_invariant h old entry free cap
  | unitReset => exact unitReset_invariant h
  | silence t =>
    refine setLive_invariant h fun u => ?_
    rw [get_set]
    split
    · exact .inr rfl
    · exact .inl rfl
  | shorten part => exact setQueue_invariant h fun o ho _ => ready_of_queued h (part.subset ho)
  | cancel => exact setQueue_invariant h fun o ho _ => ready_of_queued h (List.mem_of_mem_filter ho)
  | enqueue _ target ready => exact enqueue_invariant h target ready
  | endDuty => exact setDuty_invariant h (dutyLaw_of_none rfl)
  | verifyDuty array verify target => exact verifyDuty_invariant h array verify target
  | enter source target begins => exact enter_invariant h source target begins
  | cross array switch source target begins => exact cross_invariant h array switch source target begins
  | adjust array continues => exact adjust_invariant h array continues
  | rest array drop zero rest => exact rest_invariant h array drop zero rest
  | step array ramp steps => exact step_invariant h array ramp steps
  | succeed array verify target => exact succeed_invariant h array verify target
  | _ => exact powerInvariant_congr h rfl rfl rfl rfl rfl rfl

/-- A tick counts the switch wait of a context, and the context goes on. -/
theorem setArray_ticked_invariant (h : s.PowerInvariant) : (s.setArray s.shift.array.ticked).PowerInvariant := by
  cases array : s.shift.array with
  | shifting c =>
    unfold ArrayState.ticked
    dsimp only
    split
    · exact adjust_invariant h array ⟨rfl, rfl, rfl, rfl, rfl, rfl, Nat.le_refl _⟩
    · exact adjust_invariant h array ⟨rfl, rfl, rfl, rfl, rfl, rfl, Nat.le_refl _⟩
  | _ => exact powerInvariant_congr h rfl rfl rfl array.symm rfl rfl

/-- Settles O56. -/
theorem power_invariant_kept : Obligations.Power_invariant_kept := by
  intro s t law next
  exact step_keeps (I := State.PowerInvariant) powerOn_invariant (fun _ _ => Write.keeps_powerInvariant)
    (fun _ _ _ h => powerInvariant_congr (setArray_ticked_invariant h) rfl rfl rfl rfl rfl rfl) law next

end Sys2Proof.Machine
end

section
/-! PROOFS. The laws at reset, and one expiry of the frame timer: the sample, the Drive Frame and the Return Frames
(O3, O12, O13, O14). -/

namespace Sys2Proof.Machine

/-- Settles O3. -/
theorem reset_keeps_every_law : Obligations.Reset_keeps_every_law := by
  have power : State.reset.PowerInvariant := powerOn_invariant 0 []
  have hold : State.reset.HoldLaws := powerOn_holdLaws 0 []
  have counts : State.reset.CountLaws := powerOn_countLaws 0 []
  have timed : State.reset.Timed (TickEvent.stepTimer ∈ State.reset.due) := powerOn_timed 0 [] _
  exact ⟨power, power_law_follows _ power, hold.1, hold.2, queueLaw_of_empty rfl, counts.1, counts.2, timed.top, timed.zero⟩

variable (s : State)

/-! ### What an expiry of the frame timer writes -/

theorem emitDrive_eq : emitDrive s =
    { s with
      engine := { s.engine with
        saturation := tab fun t =>
          if s.clamps s.buffer.held t then bump (s.engine.saturation.get t) else s.engine.saturation.get t }
      link := { s.link with driveFrame := driveFrameBytes (driveSlot s s.buffer.held) }
      notices :=
        match clampedTowers s s.buffer.held with
        | [] => s.notices
        | t :: ts => (raise (.saturation t (ts.length + 1)) s).notices } := by
  unfold emitDrive
  dsimp only
  cases clampedTowers s s.buffer.held <;> rfl

/-- A write of the ports and the notices alone. -/
def State.writesPorts (s t : State) : Prop := t = { s with portA := t.portA, portB := t.portB, notices := t.notices }

theorem State.writesPorts.trans {s t u : State} (h : s.writesPorts t) (k : t.writesPorts u) : s.writesPorts u :=
  Eq.trans k (congrArg (fun x : State => { x with portA := u.portA, portB := u.portB, notices := u.notices }) h)

theorem setPort_writesPorts (p : Port) (x : PortState) : s.writesPorts (s.setPort p x) := by cases p <;> rfl

theorem portContent_writesPorts (p : Port) : s.writesPorts (portContent p s).1 := by
  unfold portContent
  split
  · exact setPort_writesPorts _ _ _
  · split
    · split
      · split <;> rfl
      · rfl
    · rfl

theorem sendReturns_writesPorts : s.writesPorts (sendReturns s) :=
  (portContent_writesPorts s .A).trans ((portContent_writesPorts _ .B).trans
    ((setPort_writesPorts _ .A _).trans (setPort_writesPorts _ .B _)))

theorem sendReturns_writes : ∃ a b n, sendReturns s = { s with portA := a, portB := b, notices := n } :=
  ⟨_, _, _, sendReturns_writesPorts s⟩

/-- All that an expiry of the frame timer writes outside the ports and the notices. -/
theorem frameExpiry_eq : ∃ a b n, frameExpiry s =
    { emitDrive (s.setBuffer s.buffer.take) with
      portA := a
      portB := b
      notices := n
      timebase := { s.timebase with frameTimer := (s.timebase.frameTimer + 1) % s.settings.frameRate } } := by
  obtain ⟨a, b, n, returns⟩ := sendReturns_writes (emitDrive (s.setBuffer s.buffer.take))
  refine ⟨a, b, n, ?_⟩
  rw [frameExpiry, returns, emitDrive_eq]
  rfl

theorem exec_frameTimerExpiry {s : State} (due : s.due = []) : exec .frameTimerExpiry s = .next (frameExpiry s) :=
  congrArg (fun x => Host.Outcome.next (frameExpiry x)) (settle_of_due_nil s due)

theorem frameExpiry_driveFrame :
    (frameExpiry s).link.driveFrame = driveFrameBytes (driveSlot s s.buffer.take.held) := by
  obtain ⟨a, b, n, expired⟩ := frameExpiry_eq s
  rw [expired, emitDrive_eq]
  rfl

/-! ### The Sample Buffer (R139, R140, R141) -/

theorem bump_of_le {n : Nat} (h : n ≤ 65535) : bump n = min (n + 1) 65535 := by rw [bump_eq_min h]

theorem Buffer.take_of_priming {b : Buffer} (h : b.state = .priming) : b.take = b := by
  unfold Buffer.take
  rw [h]

theorem Buffer.take_of_sample {b : Buffer} (h : b.state = .running) {x : Cpx} {rest : List Cpx} (fifo : b.fifo = x :: rest) :
    b.take = { b with fifo := rest, held := x } := by
  unfold Buffer.take
  rw [h, fifo]

theorem Buffer.take_of_underrun {b : Buffer} (h : b.state = .running) (fifo : b.fifo = []) :
    b.take = { b with underruns := bump b.underruns } := by
  unfold Buffer.take
  rw [h, fifo]

theorem Buffer.push_of_full {b : Buffer} (h : b.fifo.length = 16) (x : Cpx) :
    b.push x = { b with overruns := bump b.overruns } := by
  unfold Buffer.push
  rw [if_pos (by rw [h]; exact Nat.le_refl _)]

theorem Buffer.push_of_room {b : Buffer} (h : b.fifo.length < 16) (x : Cpx) :
    b.push x = { b with fifo := b.fifo ++ [x], state := if b.fifo.length + 1 = 8 then .running else b.state } := by
  unfold Buffer.push
  rw [if_neg (by show ¬16 ≤ _; omega)]
  rfl

theorem Buffer.push_running {b : Buffer} (h : b.fifo.length < 16) (state : b.state = .running) (x : Cpx) :
    b.push x = { b with fifo := b.fifo ++ [x] } := by
  rw [Buffer.push_of_room h x, state, ite_self, ← state]

/-- A running buffer gives its oldest sample, so that the fifo is one shorter. -/
theorem Buffer.take_fifo_length {b : Buffer} (h : b.state = .running) {n : Nat} (length : b.fifo.length = n + 1) :
    b.take.fifo.length = n ∧ b.take.state = .running ∧ b.take.overruns = b.overruns := by
  obtain ⟨x, rest, fifo⟩ := List.exists_cons_of_length_eq_add_one length
  rw [Buffer.take_of_sample h fifo]
  rw [fifo, List.length_cons] at length
  exact ⟨Nat.succ_injective length, h, rfl⟩

/-- Settles O12. -/
theorem buffer_gives_one_sample : Obligations.Buffer_gives_one_sample := by
  refine ⟨fun s due => ⟨_, exec_frameTimerExpiry due, ?buffer, frameExpiry_driveFrame s⟩,
    fun b h => Buffer.take_of_priming h, fun b x rest h fifo => Buffer.take_of_sample h fifo,
    fun b h fifo counter => by rw [Buffer.take_of_underrun h fifo, bump_of_le counter], fun b y state length => ?primed,
    fun b y state length counter => ?full, fun b y state fifo counter => ?empty⟩
  case buffer =>
    obtain ⟨a, b, n, expired⟩ := frameExpiry_eq s
    rw [expired, emitDrive_eq]
    rfl
  case primed =>
    have pushed : b.push y = { b with fifo := b.fifo ++ [y], state := .running } := by
      rw [Buffer.push_of_room (by omega), if_pos (by omega)]
    have long : (b.push y).fifo.length = 7 + 1 := by rw [pushed]; simp [length]
    have running : (b.push y).state = .running := by rw [pushed]
    obtain ⟨left, still, _⟩ := Buffer.take_fifo_length running long
    rw [Buffer.take_of_priming state]
    exact ⟨⟨left, still⟩, rfl, long, running⟩
  case full =>
    have pushed := Buffer.push_of_full length y
    obtain ⟨left, still, overruns⟩ := Buffer.take_fifo_length state length
    have room := Buffer.push_running (b := b.take) (by omega) still y
    refine ⟨⟨by rw [pushed, bump_of_le counter], ?_⟩, by rw [room, overruns], by rw [room]; simp [left]⟩
    rw [pushed]
    exact (Buffer.take_fifo_length (b := { b with overruns := bump b.overruns }) state length).1
  case empty =>
    have pushed := Buffer.push_running (b := b) (by rw [fifo]; decide) state y
    have taken : (b.push y).take = { b with fifo := [], held := y } := by
      rw [Buffer.take_of_sample (rest := []) (x := y) (by rw [pushed, state]) (by rw [pushed, fifo]; rfl), pushed]
    have under := Buffer.take_of_underrun state fifo
    have after := Buffer.push_running (b := b.take) (by rw [under, fifo]; decide) (by rw [under, state]) y
    refine ⟨by rw [taken]; exact ⟨rfl, rfl, rfl⟩, ?_, ?_⟩
    · rw [after, under, bump_of_le counter]
    · rw [after, under, fifo]; rfl

/-! ### The Drive Frame (R29, R31, R32, R181) -/

theorem foldl_add_toNat (bs : List Byte) (n : Nat) :
    bs.foldl (fun n b => n + b.toNat) n = n + (bs.map fun b => b.toNat).sum := by
  induction bs generalizing n with
  | nil => rfl
  | cons b bs ih => rw [List.foldl_cons, ih, List.map_cons, List.sum_cons, Nat.add_assoc]

theorem byteSum_eq (bs : List Byte) : byteSum bs = (bs.map fun b => b.toNat).sum % 65536 := by
  rw [byteSum, foldl_add_toNat, Nat.zero_add]

theorem s16_eq (x : Int) :
    s16 x = [BitVec.ofNat 8 ((BitVec.ofInt 16 x).toNat / 256), BitVec.ofNat 8 (BitVec.ofInt 16 x).toNat] := by
  rw [BitVec.toNat_ofInt]
  rfl

theorem driveFrameBytes_eq (slots : Tower → DriveSlot) :
    let byte := fun n : Nat => (BitVec.ofNat 8 n : Byte)
    let half := fun x : Int => [byte ((BitVec.ofInt 16 x).toNat / 256), byte (BitVec.ofInt 16 x).toNat]
    let slot := fun d : DriveSlot =>
      byte ((if d.valid then 128 else 0) + (match d.move with | some q => 64 + q.val | none => 0))
        :: (half d.drive.re ++ half d.drive.im)
    let content := byte 209 :: ((List.finRange 12).map fun k => slot (slots k)).flatten
    let sum := (content.map fun b => b.toNat).sum % 65536
    driveFrameBytes slots = content ++ [byte (sum / 256), byte sum] := by
  intro byte half slot content sum
  have slots_eq : (allTowers.map fun t => (slots t).bytes) = (List.finRange 12).map fun k => slot (slots k) := by
    refine List.map_congr_left fun k _ => ?_
    rw [DriveSlot.bytes, pair, s16_eq, s16_eq]
    rfl
  have content_eq : u8 209 ++ (allTowers.map fun t => (slots t).bytes).flatten = content := by rw [slots_eq]; rfl
  rw [driveFrameBytes, sealFrame, content_eq, byteSum_eq]
  rfl

/-- The gate of a slot, with the conditions of R31 and R32 written out. -/
theorem gated_eq (k : Tower) : s.gated k =
    (decide (s.settings.arraySize ≤ k.val) || (s.tower k).lockout || (s.tower k).causes.any || s.mute) := by
  have above : (!s.inArray k) = decide (s.settings.arraySize ≤ k.val) := by
    by_cases h : k.val < s.settings.arraySize
    · simp [State.inArray, h, Nat.not_le.mpr h]
    · simp [State.inArray, h, Nat.not_lt.mp h]
  rw [State.gated, above, State.outOfService, State.unusable, ← Bool.or_assoc]

/-- Settles O13. -/
theorem frame_expiry_drives : Obligations.Frame_expiry_drives := by
  refine ⟨driveFrameBytes_eq, ?_⟩
  intro s due x closed clamped
  refine ⟨_, exec_frameTimerExpiry due, ?_⟩
  have closed_eq : s.gated = closed := funext (gated_eq s)
  have clamps_eq : s.clamps x = fun k => !closed k && driveValue x (s.live k) != driveRounded x (s.live k) := by
    rw [← closed_eq]
    rfl
  have clamped_eq : clampedTowers s x = clamped := by rw [clampedTowers, clamps_eq]
  obtain ⟨a, b, n, expired⟩ := frameExpiry_eq s
  refine ⟨?frame, ?live, fun k => ?saturation, ?notices, ?rest⟩
  case frame =>
    rw [frameExpiry_driveFrame]
    refine congrArg driveFrameBytes (funext fun k => ?_)
    rw [driveSlot, closed_eq]
    refine congrArg (fun m => DriveSlot.mk _ m _) ?_
    unfold State.moveField
    cases (s.net k).state with
    | moving q start => exact if_congr decide_eq_true_iff rfl rfl
    | _ => rfl
  case live => rw [expired, emitDrive_eq]; rfl
  case saturation =>
    have counted : (frameExpiry s).engine.saturation.get k =
        if s.clamps x k then bump (s.engine.saturation.get k) else s.engine.saturation.get k := by
      rw [expired, emitDrive_eq]
      exact get_tab _ k
    rw [counted, ← clamped_eq]
    simp [clampedTowers, mem_allTowers]
  case notices =>
    rw [emitDrive_eq, ← clamped_eq]
    rfl
  case rest =>
    rw [expired, emitDrive_eq]
    exact ⟨rfl, rfl, rfl, rfl, rfl, rfl, rfl, rfl, rfl, rfl, rfl, rfl, rfl, rfl, due, rfl⟩

/-! ### The Return Frames (R163, R170, R174) -/

theorem firstReady_ready {l : Level} {i : Fin 13} (h : firstReady s l = some i) : (s.noticeSource i).ready = true := by
  have found : ((s.noticeSource i).ready && (s.noticeSource i).level == l) = true :=
    List.find?_some (p := fun i => (s.noticeSource i).ready && (s.noticeSource i).level == l) h
  exact (Bool.and_eq_true_iff.mp found).1

theorem chosenSource_ready {i : Fin 13} (h : chosenSource s = some i) : (s.noticeSource i).ready = true := by
  rcases Option.or_eq_some_iff.mp h with urgent | ⟨_, routine⟩
  · exact firstReady_ready s urgent
  · exact firstReady_ready s routine

theorem chosenSource_pending {i : Fin 13} (h : chosenSource s = some i) : ∃ n, (s.noticeSource i).pending = some n :=
  Option.isSome_iff_exists.mp (Bool.and_eq_true_iff.mp (chosenSource_ready s h)).2

theorem portContent_of_full {p : Port} {r : ReplySlot} (h : (s.port p).slot = some r) :
    portContent p s = (s.setPort p { s.port p with slot := r.next }, .reply (replyBody r r.sent)) := by
  simp only [portContent, h]

theorem portContent_of_notice {p : Port} {i : Fin 13} {n : Notice} (slot : (s.port p).slot = none)
    (owner : p = s.selector.owner) (chosen : chosenSource s = some i) (pending : (s.noticeSource i).pending = some n) :
    portContent p s = (s.setNoticeSource i { s.noticeSource i with pending := none, repeated := false },
      .notice (noticeBody n (s.noticeSource i).repeated)) := by
  simp only [portContent, slot, chosen, pending, if_pos owner]

theorem portContent_of_nothing {p : Port} (slot : (s.port p).slot = none)
    (silent : p ≠ s.selector.owner ∨ chosenSource s = none) : portContent p s = (s, .nothing) := by
  simp only [portContent, slot]
  rcases silent with other | none
  · rw [if_neg other]
  · rw [none, ite_self]

/-- What a port sends depends on its own state, on the selector and, at the owner's port, on the notices. -/
theorem portContent_congr {s u : State} {p : Port} (port : u.port p = s.port p) (selector : u.selector = s.selector)
    (notices : p = s.selector.owner → u.notices = s.notices) :
    (portContent p u).2 = (portContent p s).2 ∧ (portContent p u).1.port p = (portContent p s).1.port p
      ∧ (p = s.selector.owner → (portContent p u).1.notices = (portContent p s).1.notices) := by
  cases slot : (s.port p).slot with
  | some r =>
    rw [portContent_of_full s slot, portContent_of_full u (port ▸ slot), port]
    exact ⟨rfl, by rw [setPort_port, setPort_port], fun owner => by rw [setPort_notices, setPort_notices, notices owner]⟩
  | none =>
    have slot' : (u.port p).slot = none := port ▸ slot
    by_cases owner : p = s.selector.owner
    · have source : ∀ i, u.noticeSource i = s.noticeSource i := fun i => by simp only [State.noticeSource, notices owner]
      have chosen_eq : chosenSource u = chosenSource s := by simp only [chosenSource, firstReady, source]
      have owner' : p = u.selector.owner := selector ▸ owner
      cases chosen : chosenSource s with
      | none =>
        rw [portContent_of_nothing s slot (.inr chosen), portContent_of_nothing u slot' (.inr (chosen_eq.trans chosen))]
        exact ⟨rfl, port, notices⟩
      | some i =>
        obtain ⟨n, pending⟩ := chosenSource_pending s chosen
        rw [portContent_of_notice s slot owner chosen pending,
          portContent_of_notice u slot' owner' (chosen_eq.trans chosen) (by rw [source]; exact pending), source]
        exact ⟨rfl, port, fun _ => by simp only [State.setNoticeSource, notices owner]⟩
    · rw [portContent_of_nothing s slot (.inl owner), portContent_of_nothing u slot' (.inl (selector ▸ owner))]
      exact ⟨rfl, port, fun h => absurd h owner⟩

theorem portContent_port_ne {p q : Port} (h : q ≠ p) : (portContent p s).1.port q = s.port q := by
  cases slot : (s.port p).slot with
  | some r => rw [portContent_of_full s slot, setPort_port_ne s h]
  | none =>
    by_cases owner : p = s.selector.owner
    · cases chosen : chosenSource s with
      | none => rw [portContent_of_nothing s slot (.inr chosen)]
      | some i =>
        obtain ⟨n, pending⟩ := chosenSource_pending s chosen
        rw [portContent_of_notice s slot owner chosen pending]
        cases q <;> rfl
    · rw [portContent_of_nothing s slot (.inl owner)]

theorem portContent_selector (p : Port) : (portContent p s).1.selector = s.selector := by
  have written : (portContent p s).1 = _ := portContent_writesPorts s p
  rw [written]

theorem portContent_notices {p : Port} (h : p ≠ s.selector.owner) : (portContent p s).1.notices = s.notices := by
  cases slot : (s.port p).slot with
  | some r => rw [portContent_of_full s slot, setPort_notices]
  | none => rw [portContent_of_nothing s slot (.inl h)]

/-- What each port sends is what it would send alone; the notice that is taken is the owner's. -/
theorem sendReturns_ports (p : Port) :
    (sendReturns s).port p =
        { (portContent p s).1.port p with
          returnFrame := returnFrameBytes (sendReturns s).statusByte1 (sendReturns s).statusByte2 (portContent p s).2 }
      ∧ (p = s.selector.owner → (sendReturns s).notices = (portContent p s).1.notices) := by
  let a := (portContent .A s).1
  have selector : a.selector = s.selector := portContent_selector s .A
  obtain ⟨content, port, notices⟩ := portContent_congr (s := s) (u := a) (p := .B) (portContent_port_ne s nofun) selector
    fun owner => portContent_notices s (by rw [← owner]; nofun)
  cases p with
  | A =>
    have kept : (portContent .B a).1.port .A = a.port .A := portContent_port_ne a nofun
    refine ⟨?_, fun owner => ?_⟩
    · show { (portContent .B a).1.port .A with
        returnFrame := returnFrameBytes (sendReturns s).statusByte1 (sendReturns s).statusByte2 (portContent .A s).2 } = _
      rw [kept]
    · exact portContent_notices a (by rw [selector, ← owner]; nofun)
  | B =>
    refine ⟨?_, notices⟩
    rw [← port, ← content]
    rfl

/-- The count of the expiry leaves the ports, the notices and what the status summary reads. -/
theorem countExpiry_leaves (p : Port) : (countExpiry s).port p = s.port p ∧ (countExpiry s).notices = s.notices
    ∧ (countExpiry s).statusByte1 = s.statusByte1 ∧ (countExpiry s).statusByte2 = s.statusByte2 := by
  cases p <;> exact ⟨rfl, rfl, rfl, rfl⟩

/-- Settles O14. -/
theorem frame_expiry_returns : Obligations.Frame_expiry_returns := by
  intro s due d
  have ports : ∀ p, d.port p = s.port p := fun p => by
    show (emitDrive _).port p = _
    rw [emitDrive_eq]
    cases p <;> rfl
  have selector : d.selector = s.selector := by
    show (emitDrive _).selector = _
    rw [emitDrive_eq]
    rfl
  have sent : ∀ p, (frameExpiry s).port p =
        { (portContent p d).1.port p with
          returnFrame := returnFrameBytes (frameExpiry s).statusByte1 (frameExpiry s).statusByte2 (portContent p d).2 }
      ∧ (p = s.selector.owner → (frameExpiry s).notices = (portContent p d).1.notices) := fun p => by
    obtain ⟨port, notices, status1, status2⟩ := countExpiry_leaves (sendReturns d) p
    rw [show frameExpiry s = countExpiry (sendReturns d) from rfl, port, notices, status1, status2, ← selector]
    exact sendReturns_ports d p
  refine ⟨_, exec_frameTimerExpiry due, fun p r slot => ?full, fun p i n slot owner chosen pending => ?notice,
    fun p slot silent => ?nothing, fun quiet => ?notices⟩
  case full =>
    have slot' : (d.port p).slot = some r := by rw [ports]; exact slot
    obtain ⟨port, _⟩ := sent p
    rw [portContent_of_full d slot', setPort_port, ports] at port
    exact port
  case notice =>
    have slot' : (d.port p).slot = none := by rw [ports]; exact slot
    have content := portContent_of_notice d slot' (selector ▸ owner) chosen pending
    obtain ⟨port, notices⟩ := sent p
    have notices := notices owner
    rw [content] at port notices
    refine ⟨?_, notices⟩
    have same : (d.setNoticeSource i { d.noticeSource i with pending := none, repeated := false }).port p = s.port p :=
      Eq.trans (by cases p <;> rfl) (ports p)
    rw [same] at port
    exact port
  case nothing =>
    have slot' : (d.port p).slot = none := by rw [ports]; exact slot
    obtain ⟨port, _⟩ := sent p
    rw [portContent_of_nothing d slot' (selector ▸ silent), ports] at port
    exact port
  case notices =>
    obtain ⟨_, notices⟩ := sent s.selector.owner
    rw [notices rfl]
    cases slot : (d.port s.selector.owner).slot with
    | some r => rw [portContent_of_full d slot, setPort_notices]
    | none =>
      rw [ports] at slot
      rw [portContent_of_nothing d (by rw [ports]; exact slot) (.inr (quiet.resolve_left (not_not.mpr slot)))]

end Sys2Proof.Machine
end

section
/-! PROOFS. The bytes of a Return Frame (O15), and the notices raised, chosen and set up (O16). -/

namespace Sys2Proof.Machine

/-! ### The status summary (R171) -/

variable (s : State)

theorem Causes.any_iff {c : Causes} : c.any = true ↔ c ≠ Causes.none := by
  obtain ⟨a, b, c, d, e⟩ := c
  cases a <;> cases b <;> cases c <;> cases d <;> cases e <;> decide

theorem anyUnusable_iff : s.anyUnusable = true ↔ ∃ k : Tower, k.val < s.settings.arraySize ∧ (s.tower k).causes ≠ Causes.none := by
  simp [State.anyUnusable, State.inArray, State.unusable, Causes.any_iff, mem_allTowers]

theorem countAtLimit_iff :
    s.countAtLimit = true ↔ ∃ k : Tower, s.settings.failLimit ≤ (s.monitor.records.get k).failCount := by
  simp [State.countAtLimit, mem_allTowers]

theorem mute_iff : s.mute = true ↔ ∃ l : Line, (s.line l).action = .mute ∧ (s.line l).active = true := by
  simp [State.mute, ContactLine.mutes, mem_allLines]

theorem mem_allSources (i : Fin 13) : i ∈ allSources := by revert i; decide

theorem NoticeSource.ready_iff {n : NoticeSource} : n.ready = true ↔ n.enabled = true ∧ n.pending ≠ none := by
  simp [NoticeSource.ready, Option.isSome_iff_ne_none]

theorem noticePending_iff :
    s.noticePending = true ↔ ∃ i : Fin 13, (s.noticeSource i).enabled = true ∧ (s.noticeSource i).pending ≠ none := by
  simp only [State.noticePending, List.any_eq_true, NoticeSource.ready_iff, mem_allSources, true_and]

theorem statusByte1_eq : s.statusByte1 =
    (match s.shift.array with
    | .noPattern => 0
    | .steady p => 64 + 8 * p.val
    | .shifting c => 128 + (match c.phase with | .drop => 0 | .switch => 2 | .cross => 4 | .verify => 6)
    | .safe => 192) + (if s.selector.owner = .B then 1 else 0) := by
  have owner : Port.number s.selector.owner = if s.selector.owner = .B then 1 else 0 := by cases s.selector.owner <;> rfl
  rw [State.statusByte1, owner]
  cases s.shift.array with
  | noPattern => rfl
  | steady p => exact congrArg (· + _) (congrArg (64 + ·) (Nat.mul_comm p.val 8))
  | shifting c =>
    dsimp only [ArrayState.number]
    cases c.phase <;> rfl
  | safe => rfl

theorem statusByte2_eq : s.statusByte2 =
    (if s.selector.condition = .lost then 128 else 0)
      + (if ∃ k : Tower, k.val < s.settings.arraySize ∧ (s.tower k).causes ≠ Causes.none then 64 else 0)
      + (if ∃ k : Tower, s.settings.failLimit ≤ (s.monitor.records.get k).failCount then 32 else 0)
      + (if ∃ l : Line, (s.line l).action = .mute ∧ (s.line l).active = true then 16 else 0)
      + (if ∃ i : Fin 13, (s.noticeSource i).enabled = true ∧ (s.noticeSource i).pending ≠ none then 8 else 0) := by
  simp only [State.statusByte2, anyUnusable_iff, countAtLimit_iff, mute_iff, noticePending_iff]

/-! ### The bodies (R177, R178, R180) -/

theorem ofNat_mod_byte (n : Nat) : (BitVec.ofNat 8 (n % 256) : Byte) = BitVec.ofNat 8 n :=
  BitVec.eq_of_toNat_eq (by simp only [BitVec.toNat_ofNat]; omega)

theorem noticeBody_eq (n : Notice) (repeated : Bool) :
    noticeBody n repeated = padTo 12 ([BitVec.ofNat 8 (n.source.val + 1), if repeated then 1 else 0] ++ n.payload) := by
  cases repeated <;> rfl

theorem noticeBody_of_payload {n : Notice} {source : Byte} {payload : List Byte}
    (kind : (BitVec.ofNat 8 (n.source.val + 1) : Byte) = source) (body : n.payload = payload) (repeated : Bool) :
    noticeBody n repeated = padTo 12 ([source, if repeated then 1 else 0] ++ payload) := by
  rw [noticeBody_eq, kind, body]

theorem returnFrameBytes_eq (a b : Nat) (c : Content) : returnFrameBytes a b c =
    sealFrame ([129, BitVec.ofNat 8 a, BitVec.ofNat 8 b] ++ c.bytes) := rfl

theorem sealFrame_eq (bs : List Byte) : sealFrame bs =
    bs ++ [BitVec.ofNat 8 ((bs.map fun b => b.toNat).sum % 65536 / 256),
      BitVec.ofNat 8 ((bs.map fun b => b.toNat).sum % 65536 % 256)] := by
  rw [sealFrame, byteSum_eq, ofNat_mod_byte]
  rfl

theorem replyBody_zero (x : ReplySlot) : replyBody x 0 =
    padTo 12 ([x.request, x.tag, BitVec.ofNat 8 x.reply.code.number, BitVec.ofNat 8 (match x.reply.reason with
      | some r => r.number
      | none => 0), BitVec.ofNat 8 (replyFrames x.reply)] ++ x.reply.values.take 7) := rfl

theorem replyBody_succ (x : ReplySlot) (k : Nat) : replyBody x (k + 1) =
    padTo 12 ([x.request, x.tag, BitVec.ofNat 8 (k + 2)] ++ (x.reply.values.drop (9 * k + 7)).take 9) := rfl

/-- Settles O15. -/
theorem return_frame_bytes : Obligations.Return_frame_bytes := by
  unfold Obligations.Return_frame_bytes
  intro byte fill framed reason cause unusable outcome code tower pattern target port three
  have reason_eq : ∀ r : Reason, byte r.number = reason r := by intro r; cases r <;> rfl
  have cause_eq : ∀ c : OrderCause, byte c.number = cause c := by intro c; cases c <;> rfl
  have unusable_eq : ∀ c : UnusableCause, byte c.number = unusable c := by intro c; cases c <;> rfl
  have outcome_eq : ∀ v : Verdict, byte v.number = outcome v := by intro v; cases v <;> rfl
  have code_eq : ∀ c : ReplyCode, byte c.number = code c := by intro c; cases c <;> rfl
  have target_eq : ∀ p : Option Slot, orNone 1 slotByte p = [target p] := by intro p; cases p <;> rfl
  have port_eq : ∀ p : Port, byte (Port.number p) = port p := by intro p; cases p <;> rfl
  have framed_eq : ∀ bs, sealFrame bs = framed bs := sealFrame_eq
  have pairs : ∀ (p : Option Slot) (c : OrderCause) (bs : List Byte),
      orNone 1 slotByte p ++ u8 c.number ++ bs = [target p, cause c] ++ bs := by
    intro p c bs
    rw [target_eq, ← cause_eq]
    rfl
  refine ⟨fun a b => ⟨?nothing, fun body => ⟨?reply, ?notice⟩⟩, fun s => ⟨statusByte1_eq s, statusByte2_eq s⟩, ?bodies,
    fun r n => ?frames, fun x => ⟨?first, fun k => replyBody_succ x k⟩⟩
  case nothing => rw [returnFrameBytes_eq, framed_eq]; rfl
  case reply => rw [returnFrameBytes_eq, framed_eq]; rfl
  case notice => rw [returnFrameBytes_eq, framed_eq]; rfl
  case bodies =>
    intro repeated body
    refine ⟨fun p r => ?b1, fun k c => ?b2, fun p r => ?b3, fun p r k v d => ?b4, fun p f r => ?b5, fun k d => ?b6,
      fun p => ⟨?b7, ?b8, ?b9⟩, fun p c w => ?b10, fun k n => ?b11, fun n r => ?b12, fun k n => ?b13,
      fun p c => ⟨fun x => ?b14, fun n => ?b15, fun l => ?b16, fun q => ?b17⟩⟩
    case b1 => exact noticeBody_of_payload rfl (by rw [← reason_eq]; rfl) repeated
    case b2 => exact noticeBody_of_payload rfl (by rw [← unusable_eq]; rfl) repeated
    case b3 => exact noticeBody_of_payload rfl (by rw [Notice.payload, target_eq, ← reason_eq]; rfl) repeated
    case b4 =>
      exact noticeBody_of_payload rfl (by rw [Notice.payload, target_eq, ← reason_eq, ← outcome_eq]; rfl) repeated
    case b5 => exact noticeBody_of_payload rfl (by rw [← reason_eq]; rfl) repeated
    case b6 => exact noticeBody_of_payload rfl rfl repeated
    case b7 => exact noticeBody_of_payload rfl (by rw [← port_eq]; rfl) repeated
    case b8 => exact noticeBody_of_payload rfl (by rw [← port_eq]; rfl) repeated
    case b9 => exact noticeBody_of_payload rfl (by rw [← port_eq]; rfl) repeated
    case b10 => exact noticeBody_of_payload (n := .shiftDone p c w) rfl (pairs p c (u8 w)) repeated
    case b11 => exact noticeBody_of_payload rfl rfl repeated
    case b12 => exact noticeBody_of_payload rfl (by rw [← reason_eq]; rfl) repeated
    case b13 => exact noticeBody_of_payload rfl rfl repeated
    case b14 => exact noticeBody_of_payload rfl ((pairs p c _).trans (by rw [← port_eq]; cases x <;> rfl)) repeated
    case b15 => exact noticeBody_of_payload rfl (pairs p c _) repeated
    case b16 =>
      have small : originBytes (.line l) = [2, 0, 0, byte (l.val + 1)] := by
        have lines : ∀ m : Line, originBytes (.line m) = [2, 0, 0, BitVec.ofNat 8 (m.val + 1)] := by decide
        exact lines l
      exact noticeBody_of_payload rfl ((pairs p c _).trans (by rw [small]; rfl)) repeated
    case b17 =>
      have small : originBytes (.pattern q) = [3, 0, 0, pattern q] := by
        have patterns : ∀ m : Slot, originBytes (.pattern m) = [3, 0, 0, BitVec.ofNat 8 m.val] := by decide
        exact patterns q
      exact noticeBody_of_payload rfl ((pairs p c _).trans (by rw [small]; rfl)) repeated
  case frames =>
    unfold replyFrames
    omega
  case first =>
    rw [replyBody_zero, ← code_eq]
    cases x.reply.reason with
    | none => rfl
    | some r =>
      exact congrArg (fun b => padTo 12 ([x.request, x.tag, byte x.reply.code.number, b, byte (replyFrames x.reply)]
        ++ x.reply.values.take 7)) (reason_eq r)

/-! ### The Notice Selector (R172, R174) -/

theorem raise_of_disabled {n : Notice} (h : (s.noticeSource n.source).enabled = false) : raise n s = s := by
  have same : (s.noticeSource n.source).raised n = s.noticeSource n.source := by simp [NoticeSource.raised, h]
  rw [raise, same]
  have notices : s.notices.set n.source (s.noticeSource n.source) = s.notices := by
    refine vec_ext fun i => ?_
    rw [get_set]
    split
    · next here => rw [here]; rfl
    · rfl
  rw [State.setNoticeSource, notices]

theorem raise_of_enabled {n : Notice} (h : (s.noticeSource n.source).enabled = true) : raise n s =
    s.setNoticeSource n.source
      { enabled := true, level := (s.noticeSource n.source).level, pending := some n,
        repeated := (s.noticeSource n.source).pending.isSome } := by
  rw [raise, NoticeSource.raised, if_pos h, h]

/-- The first source in the order of R172 that meets a condition. -/
theorem find_allSources_eq_some {f : Fin 13 → Bool} {i : Fin 13} :
    allSources.find? f = some i ↔ f i = true ∧ ∀ j, j < i → f j = false := by
  have sources : allSources = List.finRange 13 := by decide
  rw [sources, List.find?_eq_some_iff_getElem]
  constructor
  · rintro ⟨holds, k, hk, rfl, before⟩
    refine ⟨holds, fun j hj => ?_⟩
    rw [List.getElem_finRange] at hj
    simpa using before j.val hj
  · rintro ⟨holds, before⟩
    exact ⟨holds, i.val, by simp, by simp, fun j hj => by simpa using before ⟨j, by omega⟩ hj⟩

theorem find_allSources_eq_none {f : Fin 13 → Bool} : allSources.find? f = none ↔ ∀ j, f j = false := by
  simp [List.find?_eq_none, mem_allSources]

/-- A source with a notice that its enable lets be sent. -/
def State.waits (s : State) (i : Fin 13) : Prop := (s.noticeSource i).enabled = true ∧ (s.noticeSource i).pending ≠ none

theorem firstReady_eq_some {l : Level} {i : Fin 13} : firstReady s l = some i ↔
    s.waits i ∧ (s.noticeSource i).level = l ∧ ∀ j, j < i → s.waits j → (s.noticeSource j).level ≠ l := by
  rw [firstReady, find_allSources_eq_some]
  simp only [Bool.and_eq_true, beq_iff_eq, NoticeSource.ready_iff, Bool.and_eq_false_imp, beq_eq_false_iff_ne, State.waits,
    and_assoc]

theorem firstReady_eq_none {l : Level} : firstReady s l = none ↔ ∀ j, s.waits j → (s.noticeSource j).level ≠ l := by
  rw [firstReady, find_allSources_eq_none]
  simp only [NoticeSource.ready_iff, Bool.and_eq_false_imp, beq_eq_false_iff_ne, State.waits]

theorem level_ne_urgent {l : Level} : l ≠ .urgent ↔ l = .routine := by cases l <;> simp

theorem chosenSource_eq_some (i : Fin 13) : chosenSource s = some i ↔
    s.waits i ∧ (∀ j, j < i → s.waits j → (s.noticeSource j).level ≠ (s.noticeSource i).level)
      ∧ ((s.noticeSource i).level = .routine → ∀ j, s.waits j → (s.noticeSource j).level = .routine) := by
  rw [chosenSource, Option.or_eq_some_iff, firstReady_eq_some, firstReady_eq_some, firstReady_eq_none]
  simp only [level_ne_urgent]
  constructor
  · rintro (⟨waits, level, before⟩ | ⟨all, waits, level, before⟩)
    · refine ⟨waits, fun j hj w => ?_, fun routine => ?_⟩
      · rw [level, before j hj w]; decide
      · rw [level] at routine; cases routine
    · exact ⟨waits, fun j hj w => level ▸ before j hj w, fun _ => all⟩
  · rintro ⟨waits, before, routine⟩
    cases level : (s.noticeSource i).level with
    | urgent =>
      rw [level] at before
      exact .inl ⟨waits, rfl, fun j hj w => level_ne_urgent.mp (before j hj w)⟩
    | routine => exact .inr ⟨routine level, waits, rfl, fun j hj w => level ▸ before j hj w⟩

theorem chosenSource_eq_none : chosenSource s = none ↔ ∀ j, ¬s.waits j := by
  rw [chosenSource, Option.or_eq_none_iff, firstReady_eq_none, firstReady_eq_none]
  constructor
  · rintro ⟨urgent, routine⟩ j waits
    exact routine j waits (level_ne_urgent.mp (urgent j waits))
  · exact fun none => ⟨fun j w => absurd w (none j), fun j w => absurd w (none j)⟩

/-! ### Notice Setup (R175) -/

theorem byte_le_one {b : Byte} : b.toNat ≤ 1 ↔ b = 0 ∨ b = 1 := by
  constructor
  · intro h
    rcases Nat.le_one_iff_eq_zero_or_eq_one.mp h with zero | one
    · exact .inl (BitVec.eq_of_toNat_eq zero)
    · exact .inr (BitVec.eq_of_toNat_eq one)
  · rintro (rfl | rfl) <;> decide

theorem onOff_of_le {b : Byte} (h : b.toNat ≤ 1) : onOff b = some (decide (b = 1)) := by
  rcases byte_le_one.mp h with rfl | rfl <;> rfl

theorem onOff_of_gt {b : Byte} (h : ¬b.toNat ≤ 1) : onOff b = none := by
  rw [byte_le_one, not_or] at h
  rw [onOff, if_neg h.2, if_neg h.1]

theorem levelOf_of_le {b : Byte} (h : b.toNat ≤ 1) : levelOf b = some (if b = 1 then .urgent else .routine) := by
  rcases byte_le_one.mp h with rfl | rfl <;> rfl

theorem levelOf_of_gt {b : Byte} (h : ¬b.toNat ≤ 1) : levelOf b = none := by
  rw [byte_le_one, not_or] at h
  rw [levelOf, if_neg h.1, if_neg h.2]

theorem reqNoticeSetup_of_operands {source enable level : Byte} (hs : 1 ≤ source.toNat ∧ source.toNat ≤ 13)
    (he : enable.toNat ≤ 1) (hl : level.toNat ≤ 1) : reqNoticeSetup source enable level s =
      answered (s.setNoticeSource ⟨source.toNat - 1, by omega⟩ ((s.noticeSource ⟨source.toNat - 1, by omega⟩).configured
          (decide (enable = 1)) (if level = 1 then .urgent else .routine)))
        (flag (s.noticeSource ⟨source.toNat - 1, by omega⟩).enabled
          ++ u8 (s.noticeSource ⟨source.toNat - 1, by omega⟩).level.number) := by
  have number : sourceOf source = some ⟨source.toNat - 1, by omega⟩ := dif_pos hs
  simp only [reqNoticeSetup, number, onOff_of_le he, levelOf_of_le hl]

theorem reqNoticeSetup_refused {source enable level : Byte}
    (h : ¬((1 ≤ source.toNat ∧ source.toNat ≤ 13) ∧ enable.toNat ≤ 1 ∧ level.toNat ≤ 1)) :
    reqNoticeSetup source enable level s = refused .badValue s := by
  unfold reqNoticeSetup
  split
  · next i b l hs he hl =>
    refine absurd ⟨?_, ?_, ?_⟩ h
    · by_contra out
      rw [sourceOf, dif_neg out] at hs
      cases hs
    · by_contra out
      rw [onOff_of_gt out] at he
      cases he
    · by_contra out
      rw [levelOf_of_gt out] at hl
      cases hl
  · rfl

theorem NoticeSource.configured_eq (n : NoticeSource) (enable : Byte) (l : Level) : n.configured (decide (enable = 1)) l =
    if enable = 1 then { enabled := true, level := l, pending := n.pending, repeated := n.repeated }
    else { enabled := false, level := l, pending := none, repeated := false } := by
  by_cases on : enable = 1 <;> simp [NoticeSource.configured, on]

/-- Settles O16. -/
theorem notices_raised_and_chosen : Obligations.Notices_raised_and_chosen := by
  refine ⟨fun n s => ⟨raise_of_disabled s, raise_of_enabled s⟩, fun s i => ?chosen, fun s => ?none, ?setup⟩
  case chosen =>
    rw [chosenSource_eq_some]
    simp only [State.waits, and_imp, and_assoc]
  case none =>
    rw [chosenSource_eq_none]
    simp only [State.waits, not_and, not_not]
  case setup =>
    intro s p tag source enable level admits
    rw [show exec (.noticeSetup p tag source enable level) s = .next (placeReply p 6 tag _ _) from
      congrArg Host.Outcome.next (requestArrives_of_admits s 6 tag (reqNoticeSetup source enable level) admits)]
    refine congrArg Host.Outcome.next ?_
    split
    · next h =>
      obtain ⟨hs, he, hl⟩ := h
      rw [reqNoticeSetup_of_operands s hs he hl, NoticeSource.configured_eq]
      rfl
    · next h => rw [reqNoticeSetup_refused s h]; rfl

end Sys2Proof.Machine
end

section
/-! PROOFS. The limits of a tower (O22), the answers to a move request (O25), the loss of the owner (O36), the firing of
the schedule (O37) and a debounced change (O38). -/

namespace Sys2Proof.Machine

/-! ### The event commands at a due event -/

theorem exec_travelLimitReached {s : State} {k : Tower} (due : TickEvent.travel k ∈ s.due) :
    exec (.travelLimitReached (k.val + 1)) s = .next (travelTimedOut k (s.setDue (s.due.erase (.travel k)))) := by
  simp only [exec, execTravelLimitReached, towerOf_eq_some_iff.mpr rfl, takeDue_of_due s due]
  rfl

theorem exec_silenceTimeReached {s : State} {k : Tower} (due : TickEvent.silence k ∈ s.due) :
    exec (.silenceTimeReached (k.val + 1)) s = .next (silenceTimedOut k (s.setDue (s.due.erase (.silence k)))) := by
  simp only [exec, execSilenceTimeReached, towerOf_eq_some_iff.mpr rfl, takeDue_of_due s due]
  rfl

theorem exec_contactDebouncedChange {s : State} {l : Line} (due : TickEvent.contact l ∈ s.due) :
    exec (.contactDebouncedChange (l.val + 1)) s = .next (contactChanged l (s.setDue (s.due.erase (.contact l)))) := by
  simp only [exec, execContactDebouncedChange, lineOf_eq_some_iff.mpr rfl, takeDue_of_due s due]
  rfl

theorem exec_holdoverExpiry {s : State} {p : Port} (due : TickEvent.holdover p ∈ s.due) :
    exec (.holdoverExpiry p) s = .next (holdoverExpired p (s.setDue (s.due.erase (.holdover p)))) :=
  congrArg Host.Outcome.next (takeDue_of_due s due)

theorem exec_ownerLoss {s : State} (due : TickEvent.ownerLoss ∈ s.due) :
    exec .ownerLoss s = .next (ownerLost (s.setDue (s.due.erase .ownerLoss))) :=
  congrArg Host.Outcome.next (takeDue_of_due s due)

theorem exec_secondAdvance {s : State} (due : TickEvent.second ∈ s.due) :
    exec .secondAdvance s = .next (secondReached (s.setDue (s.due.erase .second))) :=
  congrArg Host.Outcome.next (takeDue_of_due s due)

variable (s : State)

/-! ### The limits of a tower -/

theorem travelTimedOut_of_limit {k : Tower} (moving : (s.net k).state.isMoving = true)
    (limit : s.settings.travelLimit ≤ (s.net k).travelTimer) : travelTimedOut k s =
      addCause k .jammed (s.setNet k
        { state := .jammed, commanded := none, travelTimer := (s.net k).travelTimer, lastTravel := s.settings.travelLimit }) :=
  if_pos (by simp [moving, limit])

theorem silenceTimedOut_of_limit {k : Tower} (running : (s.tower k).silenceRunning = true)
    (limit : s.settings.silenceTime ≤ (s.tower k).silenceTimer) : silenceTimedOut k s =
      addCause k .silent (s.setTower k { s.tower k with silenceRunning := false, present := false }) :=
  if_pos (by simp [running, limit])

/-- Settles O22. -/
theorem tower_limits_reached : Obligations.Tower_limits_reached := by
  intro s k
  constructor
  · intro due moving limit
    rw [exec_travelLimitReached due, travelTimedOut_of_limit (s.setDue (s.due.erase (.travel k))) moving limit]
    rfl
  · intro due running limit
    rw [exec_silenceTimeReached due, silenceTimedOut_of_limit (s.setDue (s.due.erase (.silence k))) running limit]
    rfl

/-! ### The answers to a move request (R38) -/

theorem requestMove_of_refusing {k : Tower} (h : s.outOfService k = true ∨ s.settings.arraySize ≤ k.val) (q : Pos) :
    requestMove k q s = (setCommanded k none s, .refused) :=
  if_pos (by
    rcases h with out | outside
    · simp [out]
    · simp [State.inArray, outside])

theorem requestMove_in_service {k : Tower} (service : s.outOfService k = false) (inside : k.val < s.settings.arraySize) (q : Pos) :
    requestMove k q s = (match (s.net k).state with
      | .settled p =>
        if p = q then (setCommanded k none s, .atPosition)
        else if s.live k = Cpx.zero then (startMove k p q s, .started)
        else (s, .refused)
      | .moving _ _ => (setCommanded k (some q) s, .held)
      | .unknown => (setCommanded k (some q) s, .held)
      | .drifting => (setCommanded k (some q) s, .held)
      | .jammed => (setCommanded k none s, .refused)) :=
  if_neg (by simp [service, State.inArray, inside])

/-- Settles O25: R38's table, from the top down. -/
theorem move_request_answers : Obligations.Move_request_answers := by
  intro k q p d s
  refine ⟨fun h => requestMove_of_refusing s h q, fun service inside => ⟨fun h => ?there, fun h ne zero => ?start,
    fun h ne some => ?refuse, fun h => ?hold⟩⟩
  all_goals rw [requestMove_in_service s service inside]
  case there => rw [h]; exact if_pos rfl
  case start => rw [h]; exact (if_neg ne).trans (if_pos zero)
  case refuse => rw [h]; exact (if_neg ne).trans (if_neg some)
  case hold => rcases h with h | h | h <;> rw [h] <;> rfl

/-! ### The ports and the owner (R131, R134, R136) -/

theorem takeoverReady_of_lost (h : s.selector.condition = .lost) : s.takeoverReady = true ↔
    s.selector.mode = .auto ∧ (s.port s.selector.owner.other).present = true
      ∧ (s.port s.selector.owner.other).barred = false := by
  simp [State.takeoverReady, h, and_assoc]

theorem ownerLost_of_limit (h : s.selector.condition = .live ∧ s.settings.holdover ≤ (s.port s.selector.owner).age) :
    ownerLost s =
      if s.selector.mode = .auto ∧ (s.port s.selector.owner.other).present = true
        ∧ (s.port s.selector.owner.other).barred = false
      then changeover s.selector.owner.other (s.setSelector { s.selector with condition := .lost })
      else raise (.driveLost s.selector.owner) (s.setSelector { s.selector with condition := .lost }) := by
  have ready : (s.setSelector { s.selector with condition := .lost }).takeoverReady = true ↔
      s.selector.mode = .auto ∧ (s.port s.selector.owner.other).present = true
        ∧ (s.port s.selector.owner.other).barred = false :=
    takeoverReady_of_lost (s.setSelector { s.selector with condition := .lost }) rfl
  rw [ownerLost, if_pos h]
  dsimp only
  split
  · next takes => exact (if_pos takes).trans (if_pos (ready.mp takes)).symm
  · next stays => exact (if_neg (mt ready.mpr stays)).symm

/-- Settles O36. -/
theorem holdover_and_owner_loss : Obligations.Holdover_and_owner_loss := by
  refine ⟨fun s p due => ?holdover, ?owner⟩
  case holdover =>
    rw [exec_holdoverExpiry due]
    simp only [holdoverExpired, Bool.and_eq_true, decide_eq_true_eq]
    cases p <;> rfl
  case owner =>
    intro s due owner other
    rw [exec_ownerLoss due]
    refine congrArg Host.Outcome.next ?_
    split
    · next limit =>
      exact ownerLost_of_limit (s.setDue (s.due.erase .ownerLoss)) limit
    · next within => exact if_neg within

/-! ### The second and the schedule (R148, R153, R154) -/

theorem Timebase.advanced_eq (b : Timebase) : b.advanced =
    { b with
      second := if b.second = 86399 then 0 else b.second + 1
      weekday := if b.second = 86399 then b.weekday + 1 else b.weekday
      subsecond := 0 } := by
  unfold Timebase.advanced
  split <;> rfl

theorem fireEntry_eq (e : ScheduleEntry) : fireEntry e s =
    if s.schedule.hold then raise (.scheduleSkipped e.time .held) s
    else if s.safeOrDropping then raise (.scheduleSkipped e.time .safe) s
    else if (s.record e.pattern).isReady = false then raise (.scheduleSkipped e.time .notReady) s
    else if 4 ≤ s.shift.queue.length ∧ (s.shift.queue.getLast?.map fun o => o.target) ≠ some (some e.pattern) then
      raise (.scheduleSkipped e.time .queueFull) s
    else offerOrder { target := some e.pattern, cause := .schedule, origin := .time e.time } s := by
  unfold fireEntry skipReason Config.queueDepth
  by_cases held : s.schedule.hold
  · simp only [if_pos held]
  by_cases safe : s.safeOrDropping
  · simp only [if_neg held, if_pos safe]
  by_cases ready : (s.record e.pattern).isReady = false
  · simp only [if_neg held, if_neg safe, if_pos ready]
  by_cases full : 4 ≤ s.shift.queue.length ∧ (s.shift.queue.getLast?.map fun o => o.target) ≠ some (some e.pattern)
  · simp only [if_neg held, if_neg safe, if_neg ready, if_pos full]
  · simp only [if_neg held, if_neg safe, if_neg ready, if_neg full]

/-- Settles O37. -/
theorem second_advance_fires : Obligations.Second_advance_fires := by
  intro s due clock subsecond second weekday later
  have advanced : (s.setDue (s.due.erase .second)).setTimebase (s.setDue (s.due.erase .second)).timebase.advanced = later :=
    congrArg (State.setTimebase (s.setDue (s.due.erase .second))) (Timebase.advanced_eq s.timebase)
  rw [exec_secondAdvance due, secondReached, if_pos ⟨clock, subsecond⟩, advanced]
  refine congrArg Host.Outcome.next ?_
  have firing : firingEntry later = s.schedule.entries.find? fun e => e.time == second && e.days.getLsbD weekday.val := rfl
  dsimp only
  rw [firing]
  split
  · next e found => rw [found]; exact fireEntry_eq later e
  · next found => rw [found]

/-! ### A debounced change of a contact line (R156, R157, R158) -/

theorem contactOrder_eq (l : Line) (p : Slot) : contactOrder l p s =
    if s.safeOrDropping = true ∨ (s.record p).isReady = false
      ∨ offerAnswer { target := some p, cause := .contact, origin := .line l } s = .full
    then raise (.orderDiscarded (some p) .contact (.line l)) s
    else offerOrder { target := some p, cause := .contact, origin := .line l } s := by
  unfold contactOrder
  by_cases safe : s.safeOrDropping = true
  · simp [safe, discardOrder]
  by_cases ready : (s.record p).isReady = false
  · simp [ready, discardOrder]
  · simp [safe, ready, discardOrder]

/-- Settles O38. -/
theorem contact_change_acts : Obligations.Contact_change_acts := by
  intro s l due changed limit level taken order asked
  have line : taken.line l = { s.line l with active := level, count := 0 } := by
    simp only [taken, setLine_line, if_true]
  have asks (p : Slot) : contactOrder l p taken = asked p := contactOrder_eq taken l p
  have acts : contactChanged l (s.setDue (s.due.erase (.contact l))) = contactAction l s.mute taken :=
    if_pos ⟨changed, limit⟩
  rw [exec_contactDebouncedChange due, acts]
  refine congrArg Host.Outcome.next ?_
  simp only [contactAction, line, asks]
  rfl

end Sys2Proof.Machine
end

section
/-! PROOFS. The station settings: the plain ones (O39) and those that act on other state (O40). -/

namespace Sys2Proof.Machine

/-! ### The outcome of a request that is executed -/

/-- What an executed request leaves: its state, with its reply placed. -/
def placed (p : Port) (code tag : Byte) (r : State × Reply) : Host.Outcome State Fault Refusal :=
  .next (placeReply p code tag r.2 r.1)

theorem placed_ite (p : Port) (code tag : Byte) (c : Prop) [Decidable c] (a b : State × Reply) :
    placed p code tag (if c then a else b) = if c then placed p code tag a else placed p code tag b :=
  apply_ite (placed p code tag) c a b

/-- A request that its port admits, with nothing due, is executed on the state as it stands. -/
theorem arrives_eq_placed {s : State} {p : Port} (admits : s.admits p) (code tag : Byte) (op : RequestOp) :
    (Host.Outcome.next (requestArrives p code tag op (settle s)) : Host.Outcome State Fault Refusal) = placed p code tag (op s) :=
  congrArg Host.Outcome.next (requestArrives_of_admits s code tag op admits)

/-! ### The tests of R165 -/

theorem inRange_eq_false {lo hi v : Nat} : inRange lo hi v = false ↔ v < lo ∨ hi < v := by
  simp only [inRange, decide_eq_false_iff_not]
  omega

variable (s : State)

theorem anyMoving_iff : anyMoving s = true ↔ ∃ k : Tower, (s.net k).state.isMoving = true := by
  simp [anyMoving, mem_allTowers]

theorem capAbove_iff {v : Nat} : capAbove s v = true ↔
    ∃ q : Slot, (s.record q).isReady = true ∧ ∃ h ∈ (s.record q).header, v < h.cap := by
  simp only [capAbove, List.any_eq_true, mem_allSlots, true_and]
  refine exists_congr fun q => ?_
  cases s.record q <;> simp [PatternRecord.isReady, PatternRecord.header]

theorem entryAbove_iff {v : Nat} : entryAbove s v = true ↔ ∃ q : Slot, ∃ e ∈ (s.record q).entries, v ≤ e.tower.val := by
  simp [entryAbove, mem_allSlots]

theorem rampRunning_iff : s.rampRunning = true ↔ ∃ c ∈ s.shift.array.context, c.phase = .drop ∨ c.phase = .cross := by
  unfold State.rampRunning ArrayState.context
  cases s.shift.array <;> simp

/-- Settles O39: each setting makes its tests in the order of R165. -/
theorem setup_plain_settings : Obligations.Setup_plain_settings := by
  intro s p tag value admits v x no yes
  have run := arrives_eq_placed admits 1 tag
  refine ⟨(run (reqDropLength v)).trans ?_, (run (reqVerifyTries v)).trans ?_, (run (reqCeiling v)).trans ?_,
    (run (reqTravelWarn v)).trans ?_, (run (reqTravelLimit v)).trans ?_, (run (reqSilenceTime v)).trans ?_,
    (run (reqWindowLimit v)).trans ?_, (run (reqHoldover v)).trans ?_, (run (reqDebounce v)).trans ?_⟩
  case refine_1 => simp only [reqDropLength, placed_ite, inRange_eq_false]; rfl
  case refine_2 => simp only [reqVerifyTries, placed_ite, inRange_eq_false]; rfl
  case refine_3 =>
    have within : inRange 0 65535 v = true := by simp only [inRange, decide_eq_true_eq]; omega
    simp only [reqCeiling, placed_ite, within, capAbove_iff, Bool.true_eq_false, if_false]
    rfl
  case refine_4 => simp only [reqTravelWarn, placed_ite, inRange_eq_false]; rfl
  case refine_5 => simp only [reqTravelLimit, placed_ite, inRange_eq_false, anyMoving_iff]; rfl
  case refine_6 => simp only [reqSilenceTime, placed_ite, inRange_eq_false]; rfl
  case refine_7 => simp only [reqWindowLimit, placed_ite, inRange_eq_false]; rfl
  case refine_8 => simp only [reqHoldover, placed_ite, inRange_eq_false]; rfl
  case refine_9 => simp only [reqDebounce, placed_ite, inRange_eq_false, Nat.not_lt_zero, false_or]; rfl

/-! ### The settings that act on other state -/

theorem resizeArray_eq {v : Nat} (h : v ≠ s.settings.arraySize) : resizeArray v s =
    { s with
      settings := { s.settings with arraySize := v }
      link :=
        { s.link with
          towers := tab fun k =>
            if k.val < v ∧ k.val < s.settings.arraySize then s.tower k
            else
              { present := false, paFault := false, lockout := (s.tower k).lockout, causes := Causes.none,
                silenceTimer := 0, silenceRunning := decide (k.val < v), lastSlot := none } }
      nets := tab fun k =>
        if v < s.settings.arraySize ∧ v ≤ k.val then
          { state := .unknown, commanded := none, travelTimer := 0, lastTravel := (s.net k).lastTravel }
        else s.net k } := by
  have towers : (fun t : Tower => if v ≤ t.val then (s.tower t).cleared false
      else if s.settings.arraySize ≤ t.val then (s.tower t).cleared true else s.tower t) = fun k =>
        if k.val < v ∧ k.val < s.settings.arraySize then s.tower k
        else
          { present := false, paFault := false, lockout := (s.tower k).lockout, causes := Causes.none,
            silenceTimer := 0, silenceRunning := decide (k.val < v), lastSlot := none } := by
    funext k
    by_cases new : v ≤ k.val
    · rw [if_pos new, if_neg (by omega), decide_eq_false (by omega)]
      rfl
    by_cases old : s.settings.arraySize ≤ k.val
    · rw [if_neg new, if_pos old, if_neg (by omega), decide_eq_true (by omega)]
      rfl
    · rw [if_neg new, if_neg old, if_pos (by omega)]
  rw [resizeArray, if_neg h, ← towers]
  rfl

theorem not_mem_windowLengths {v : Nat} : v ∉ [1, 2, 4, 8, 16, 32, 64] ↔
    v ≠ 1 ∧ v ≠ 2 ∧ v ≠ 4 ∧ v ≠ 8 ∧ v ≠ 16 ∧ v ≠ 32 ∧ v ≠ 64 := by simp

/-- Settles O40. -/
theorem setup_settings_with_effects : Obligations.Setup_settings_with_effects := by
  intro s p tag value admits v x no yes
  have run := arrives_eq_placed admits 1 tag
  refine ⟨(run (reqArraySize v)).trans ?size, (run (reqFrameRate v)).trans ?rate, (run (reqStepPeriod v)).trans ?period,
    (run (reqMonWindow v)).trans ?window, (run (reqFailLimit v)).trans ?limit⟩
  case size =>
    simp only [reqArraySize, placed_ite, inRange_eq_false, entryAbove_iff]
    by_cases same : v = x.arraySize
    · rw [if_pos same, show resizeArray v s = s from if_pos same]
      rfl
    · rw [if_neg same, resizeArray_eq s same]
      rfl
  case rate => simp only [reqFrameRate, placed_ite, inRange_eq_false]; rfl
  case period =>
    simp only [reqStepPeriod, placed_ite, inRange_eq_false, rampRunning_iff]
    split
    · rfl
    · split <;> rfl
  case window =>
    simp only [reqMonWindow, placed_ite, not_mem_windowLengths]
    split
    · rfl
    by_cases same : v = s.settings.monWindow
    · rw [if_pos same, if_pos same]
      exact congrArg (fun n => placed p 1 tag (answered (s.setSettings { s.settings with monWindow := n })
        (setupReply s.settings.monWindow v))) same
    · rw [if_neg same, if_neg same]
      rfl
  case limit => simp only [reqFailLimit, placed_ite, inRange_eq_false]; rfl

end Sys2Proof.Machine
end

section
/-! PROOFS. The reading requests (O42), Counter Clear and Unit Reset (O44), Pattern Open and Erase (O45), Shift and Shift
Cancel (O50), Contact Setup (O54) and Source Control (O55). -/

namespace Sys2Proof.Machine

/-! ### Operands -/

theorem slotOf_of_ge {n : Nat} (h : 8 ≤ n) : slotOf n = none := dif_neg (by omega)

theorem slotOf_val (q : Slot) : slotOf q.val = some q := dif_pos q.isLt

theorem ofNat_slot (q : Slot) : (BitVec.ofNat 8 q.val : Byte).toNat = q.val := by
  rw [BitVec.toNat_ofNat]
  omega

theorem slotOf_ofNat (q : Slot) : slotOf (BitVec.ofNat 8 q.val : Byte).toNat = some q := by
  rw [ofNat_slot, slotOf_val]

theorem byte_ne_zero {b : Byte} (h : b ≠ 0) : 1 ≤ b.toNat :=
  Nat.one_le_iff_ne_zero.mpr fun zero => h (BitVec.eq_of_toNat_eq zero)

variable {s : State}

/-! ### Reading -/

theorem getElem?_item {α : Type} (es : List α) {item : Byte} (h : item ≠ 0) : es[item.toNat - 1]? =
    if g : item.toNat ≤ es.length ∧ 1 ≤ item.toNat then some (es[item.toNat - 1]'(by omega)) else none := by
  have one := byte_ne_zero h
  split
  · exact List.getElem?_eq_getElem _
  · exact List.getElem?_eq_none (by omega)

/-- Settles O42. -/
theorem reading_requests : Obligations.Reading_requests := by
  intro s p tag admits
  refine ⟨arrives_eq_placed admits 3 tag reqStatusQuery, fun pattern item => ?pattern, fun tower => ?tower, fun item => ?schedule⟩
  case pattern =>
    refine (arrives_eq_placed admits 13 tag (reqPatternRead pattern item)).trans ?_
    unfold reqPatternRead
    cases slotOf pattern.toNat with
    | none => rfl
    | some q =>
      dsimp only
      by_cases header : item = 0
      · rw [if_pos header, if_pos header]
        rfl
      rw [if_neg header, if_neg header, getElem?_item _ header]
      by_cases inside : item.toNat ≤ (s.record q).entries.length ∧ 1 ≤ item.toNat
      · rw [dif_pos inside, dif_pos inside]
        rfl
      · rw [dif_neg inside, dif_neg inside]
        rfl
  case tower =>
    refine (arrives_eq_placed admits 20 tag (reqTowerStatus tower)).trans ?_
    by_cases inside : 1 ≤ tower.toNat ∧ tower.toNat ≤ 12
    · rw [reqTowerStatus, towerOf, dif_pos inside, dif_pos inside]
      rfl
    · rw [reqTowerStatus, towerOf, dif_neg inside, dif_neg inside]
      rfl
  case schedule =>
    refine (arrives_eq_placed admits 26 tag (reqScheduleRead item)).trans ?_
    unfold reqScheduleRead
    by_cases table : item = 0
    · rw [if_pos table, if_pos table]
      rfl
    rw [if_neg table, if_neg table, getElem?_item _ table]
    by_cases inside : item.toNat ≤ s.schedule.entries.length ∧ 1 ≤ item.toNat
    · rw [dif_pos inside, dif_pos inside]
      rfl
    · rw [dif_neg inside, dif_neg inside]
      rfl

/-- Settles O44: both are read off their definitions, block by block. -/
theorem counter_clear_and_unit_reset : Obligations.Counter_clear_and_unit_reset := fun _ _ tag admits =>
  ⟨arrives_eq_placed admits 4 tag reqCounterClear, arrives_eq_placed admits 5 tag reqUnitReset⟩

/-! ### Pattern Open and Pattern Erase (R7, R13) -/

theorem usable_of_not_ready {q : Slot} (h : (s.record q).isReady = false) : s.usable q = false := by
  unfold State.usable
  cases record : s.record q with
  | ready => rw [record] at h; cases h
  | _ => rfl

theorem placeReply_record (p : Port) (code tag : Byte) (r : Reply) (s : State) (q : Slot) :
    (placeReply p code tag r s).record q = s.record q := by
  cases p <;> rfl

theorem reqPatternOpen_not_ready {pattern : Byte} {q : Slot} (number : slotOf pattern.toNat = some q) (free : s.inUse q = false) :
    ((reqPatternOpen pattern s).1.record q).isReady = false := by
  unfold reqPatternOpen
  rw [number]
  dsimp only
  have stored (r : PatternRecord) : ((s.setRecord q r).record q).isReady = r.isReady := by
    rw [setRecord_record, if_pos rfl]
  cases record : s.record q with
  | empty => exact stored _
  | opened h es => exact congrArg PatternRecord.isReady record
  | ready h es =>
    rw [free]
    exact stored _

/-- Settles O45. -/
theorem pattern_open_and_erase : Obligations.Pattern_open_and_erase := by
  intro s p tag pattern admits
  have opens : exec (.patternOpen p tag pattern) s = placed p 7 tag (reqPatternOpen pattern s) :=
    arrives_eq_placed admits 7 tag _
  have erases : exec (.patternErase p tag pattern) s = placed p 12 tag (reqPatternErase pattern s) :=
    arrives_eq_placed admits 12 tag _
  refine ⟨fun big => ?none, fun q same => ?some⟩
  case none =>
    rw [opens, erases, reqPatternOpen, reqPatternErase, slotOf_of_ge big]
    exact ⟨rfl, rfl⟩
  case some =>
    have number : slotOf pattern.toNat = some q := by rw [same, slotOf_val]
    refine ⟨?_, fun t run free => ?_, ?_⟩
    · rw [opens, reqPatternOpen, number]
      dsimp only
      cases s.record q with
      | ready h es => exact (placed_ite ..).trans (apply_ite Host.Outcome.next ..).symm
      | _ => rfl
    · rw [opens] at run
      cases run
      exact usable_of_not_ready (by rw [placeReply_record]; exact reqPatternOpen_not_ready number free)
    · rw [erases, reqPatternErase, number]
      exact (placed_ite ..).trans (apply_ite Host.Outcome.next ..).symm

/-! ### Shift and Shift Cancel (R58, R60) -/

theorem offerAnswer_manual {o : Order} (h : o.cause = .manual) : offerAnswer o s =
    if (s.shift.queue.getLast?.map fun tail => tail.target) = some o.target then .merged
    else if 4 ≤ s.shift.queue.length then .full else .entered :=
  if_neg (by simp [h])

theorem isRoutine_eq_false {c : OrderCause} : (!c.isRoutine) = (c == .fallback || c == .abort || c == .safe) := by
  cases c <;> rfl

/-- Settles O50. -/
theorem shift_and_cancel : Obligations.Shift_and_cancel := by
  intro s p tag admits
  have shifts (pattern : Byte) : exec (.shift p tag pattern) s = placed p 15 tag (reqShift p pattern s) :=
    arrives_eq_placed admits 15 tag _
  refine ⟨fun pattern big => ?none, fun q => ?some, ?cancel⟩
  case none =>
    rw [shifts, reqShift, slotOf_of_ge big]
    rfl
  case some =>
    intro order merged after
    have tail : merged ↔ (s.shift.queue.getLast?.map fun tail => tail.target) = some order.target := by
      simp only [merged, order, Option.map_eq_some_iff, Option.mem_def]
    have answer : offerAnswer order s = if merged then .merged else if 4 ≤ s.shift.queue.length then .full else .entered := by
      simp only [offerAnswer_manual (o := order) rfl, tail]
    rw [shifts, reqShift, slotOf_ofNat]
    dsimp only
    by_cases ready : (s.record q).isReady = false
    · rw [if_pos ready, if_pos ready]
      rfl
    by_cases usable : s.usable q = false
    · rw [if_neg ready, if_neg ready, if_pos usable, if_pos usable]
      rfl
    rw [if_neg ready, if_neg ready, if_neg usable, if_neg usable]
    by_cases merges : merged
    · rw [if_pos merges] at answer
      have stays : offerOrder order s = s := if_neg (by rw [answer]; decide)
      rw [if_pos merges, show offerAnswer _ s = .merged from answer, show offerOrder _ s = s from stays]
      rfl
    rw [if_neg merges] at answer ⊢
    by_cases full : 4 ≤ s.shift.queue.length
    · rw [if_pos full] at answer ⊢
      rw [show offerAnswer _ s = .full from answer]
      rfl
    · rw [if_neg full] at answer ⊢
      rw [show offerAnswer _ s = .entered from answer]
      rfl
  case cancel =>
    refine (arrives_eq_placed admits 16 tag reqShiftCancel).trans ?_
    simp only [reqShiftCancel, isRoutine_eq_false]
    rfl

/-! ### Contact Setup (R158) -/

theorem lineOf_of_out {n : Nat} (h : n = 0 ∨ 4 < n) : lineOf n = none := dif_neg (by omega)

theorem lineOf_val (l : Line) : lineOf (l.val + 1) = some l := lineOf_eq_some_iff.mpr rfl

theorem senseOf_of_gt {b : Byte} (h : 1 < b.toNat) : senseOf b = none := by
  have out := mt byte_le_one.mpr (Nat.not_le.mpr h)
  rw [not_or] at out
  rw [senseOf, if_neg out.1, if_neg out.2]

theorem actionOf_of_gt {b : Byte} (h : 3 < b.toNat) (x y : Byte) : actionOf b x y = none := by
  have other {c : Byte} (small : c.toNat ≤ 3) : b ≠ c := fun same => absurd (same ▸ h) (Nat.not_lt.mpr small)
  rw [actionOf, if_neg (other (by decide)), if_neg (other (by decide)), if_neg (other (by decide)), if_neg (other (by decide))]

theorem actionOf_shiftOnActive (x y : Byte) : actionOf 1 x y = (slotOf x.toNat).map Action.shiftOnActive := rfl

theorem actionOf_shiftPair (x y : Byte) :
    actionOf 2 x y = (slotOf x.toNat).bind fun p => (slotOf y.toNat).map fun q => .shiftPair p q := rfl

theorem reqContactSetup_refused {line sense action x y : Byte}
    (h : lineOf line.toNat = none ∨ senseOf sense = none ∨ actionOf action x y = none) :
    reqContactSetup line sense action x y s = refused .badValue s := by
  unfold reqContactSetup
  split
  · next l n a hl hs ha => rw [hl, hs, ha] at h; simp at h
  · rfl

/-- Settles O54. -/
theorem contact_setup : Obligations.Contact_setup := by
  intro s p tag line sense action x y admits
  have setup : exec (.contactSetup p tag line sense action x y) s = placed p 27 tag (reqContactSetup line sense action x y s) :=
    arrives_eq_placed admits 27 tag _
  constructor
  · intro bad
    rw [setup, reqContactSetup_refused]
    · rfl
    rcases bad with rfl | big | big | big | ⟨rfl, big⟩ | ⟨rfl, big | big⟩
    · exact .inl (lineOf_of_out (.inl rfl))
    · exact .inl (lineOf_of_out (.inr big))
    · exact .inr (.inl (senseOf_of_gt big))
    · exact .inr (.inr (actionOf_of_gt big x y))
    · exact .inr (.inr (by rw [actionOf_shiftOnActive, slotOf_of_ge big]; rfl))
    · exact .inr (.inr (by rw [actionOf_shiftPair, slotOf_of_ge big]; rfl))
    · exact .inr (.inr (by rw [actionOf_shiftPair, slotOf_of_ge big]; cases slotOf x.toNat <;> rfl))
  · intro l n a hl hn ha level t
    have hn : senseOf sense = some n := by rw [hn]; cases n <;> rfl
    have ha : actionOf action x y = some a := by
      cases a with
      | none => rw [ha]; rfl
      | shiftOnActive q =>
        obtain ⟨rfl, hq⟩ := ha
        rw [actionOf_shiftOnActive, hq, slotOf_val]; rfl
      | shiftPair q r =>
        obtain ⟨rfl, hq, hr⟩ := ha
        rw [actionOf_shiftPair, hq, hr, slotOf_val, slotOf_val]; rfl
      | mute => rw [ha]; rfl
    have configured : s.setLine l ((s.line l).configured n a) = t := rfl
    rw [setup, reqContactSetup, hl, lineOf_val, hn, ha]
    dsimp only
    rw [configured]
    rfl

/-! ### Source Control (R137, R138) -/

theorem portOf_of_gt {b : Byte} (h : 1 < b.toNat) : portOf b = none := by
  have out := mt byte_le_one.mpr (Nat.not_le.mpr h)
  rw [not_or] at out
  rw [portOf, if_neg out.1, if_neg out.2]

theorem modeOf_of_gt {b : Byte} (h : 1 < b.toNat) : modeOf b = none := by
  have out := mt byte_le_one.mpr (Nat.not_le.mpr h)
  rw [not_or] at out
  rw [modeOf, if_neg out.1, if_neg out.2]

theorem takeoverReady_iff : s.takeoverReady = true ↔
    s.selector.mode = .auto ∧ s.selector.condition = .lost ∧ (s.port s.selector.owner.other).present = true
      ∧ (s.port s.selector.owner.other).barred = false := by
  simp [State.takeoverReady, and_assoc]

theorem takeover_eq : takeover s =
    if s.selector.mode = .auto ∧ s.selector.condition = .lost ∧ (s.port s.selector.owner.other).present = true
      ∧ (s.port s.selector.owner.other).barred = false
    then changeover s.selector.owner.other s else s := by
  simp only [takeover, takeoverReady_iff]

theorem Port.other_eq_of_ne {x y : Port} (h : x ≠ y) : y.other = x := by
  cases x with
  | A => cases y with
    | A => exact absurd rfl h
    | B => rfl
  | B => cases y with
    | A => rfl
    | B => exact absurd rfl h

theorem setPort_unbarred {p : Port} (h : (s.port p).barred = false) : s.setPort p { s.port p with barred := false } = s := by
  cases p <;> exact congrArg (fun b => s.setPort _ { s.port _ with barred := b }) h.symm

/-- Settles O55. -/
theorem source_control : Obligations.Source_control := by
  intro s p tag operand admits answer change
  have sets : exec (.setPreferredPort p tag operand) s = placed p 28 tag (reqSetPreferred operand s) :=
    arrives_eq_placed admits 28 tag _
  have modes : exec (.setChangeoverMode p tag operand) s = placed p 28 tag (reqSetMode operand s) :=
    arrives_eq_placed admits 28 tag _
  have clears : exec (.clearBar p tag operand) s = placed p 28 tag (reqClearBar operand s) :=
    arrives_eq_placed admits 28 tag _
  have forces : exec (.forceOwner p tag operand) s = placed p 28 tag (reqForceOwner operand s) :=
    arrives_eq_placed admits 28 tag _
  have changes (x : Port) (y : State) (h : y.buffer = s.buffer) : changeover x y = change x y := by
    unfold changeover flushBuffer Buffer.flush
    rw [setSelector_buffer, h]
    rfl
  rw [sets, modes, clears, forces]
  constructor
  · intro big
    rw [reqSetPreferred, reqSetMode, reqClearBar, reqForceOwner, portOf_of_gt big, modeOf_of_gt big]
    exact ⟨rfl, rfl, rfl, rfl⟩
  · intro x named
    have port : portOf operand = some x := by rw [named]; cases x <;> rfl
    refine ⟨?prefer, ?mode, ?clear, ?force⟩
    case prefer =>
      rw [reqSetPreferred, port]
      rfl
    case mode =>
      intro mode other y
      have modeNamed : modeOf operand = some mode := by simp only [mode, named]; cases x <;> rfl
      rw [reqSetMode, modeNamed]
      dsimp only
      by_cases same : mode = s.selector.mode
      · rw [if_pos same, if_neg (fun h => h.1 same.symm)]
        exact congrArg (fun m => answer { s with selector := { s.selector with mode := m } }) same.symm
      have leaves : takeover y = if mode = .auto ∧ s.selector.condition = .lost ∧ (s.port other).present = true
          ∧ (s.port other).barred = false then change other y else y := by
        rw [← changes other y rfl]
        exact takeover_eq
      rw [if_neg same, show s.setSelector { s.selector with mode := mode } = y from rfl, leaves]
      by_cases takes : mode = .auto ∧ s.selector.condition = .lost ∧ (s.port other).present = true
          ∧ (s.port other).barred = false
      · rw [if_pos takes, if_pos ⟨Ne.symm same, takes⟩]
        rfl
      · rw [if_neg takes, if_neg (fun h => takes h.2)]
        rfl
    case clear =>
      intro y
      have selector : y.selector = s.selector := setPort_selector s x _
      have port_x : y.port x = { s.port x with barred := false } := setPort_port s x _
      rw [reqClearBar, port]
      dsimp only
      by_cases barred : (s.port x).barred = true
      · rw [if_pos barred]
        by_cases owner : x = s.selector.owner
        · rw [if_pos (owner.trans (congrArg Selector.owner selector).symm), if_neg (fun ⟨_, other, _⟩ => other owner)]
          rfl
        rw [if_neg (fun h => owner (h.trans (congrArg Selector.owner selector))), takeover_eq, selector,
          Port.other_eq_of_ne owner, port_x]
        by_cases takes : s.selector.mode = .auto ∧ s.selector.condition = .lost ∧ (s.port x).present = true
        · obtain ⟨auto, lost, present⟩ := takes
          rw [if_pos ⟨auto, lost, present, rfl⟩, if_pos ⟨barred, owner, auto, lost, present⟩,
            changes x y (setPort_buffer s x _)]
          rfl
        · rw [if_neg (fun ⟨auto, lost, present, _⟩ => takes ⟨auto, lost, present⟩), if_neg (fun ⟨_, _, h⟩ => takes h)]
          rfl
      · have unbarred : y = s := setPort_unbarred (by simpa using barred)
        rw [if_neg barred, if_neg (fun h => barred h.1), unbarred]
        rfl
    case force =>
      rw [reqForceOwner, port]
      dsimp only
      by_cases owner : x = s.selector.owner
      · rw [if_pos owner, if_pos owner]
        rfl
      rw [if_neg owner, if_neg owner]
      by_cases refuses : (s.port x).barred = true ∨ (s.port x).present = false
      · rw [if_pos refuses, if_pos (by simpa using refuses)]
        rfl
      · rw [if_neg refuses, if_neg (by simpa using refuses), changes x s rfl]
        rfl

end Sys2Proof.Machine
end

section
/-! PROOFS. Tower Lockout and Tower Restore (O52), the requests of the clock and the Schedule Table (O53). -/

namespace Sys2Proof.Machine

variable {s : State}

/-! ### A tower operand -/

theorem arrayTower_of_out {b : Byte} (h : b = 0 ∨ s.settings.arraySize < b.toNat) : arrayTower s b = none := by
  unfold arrayTower
  cases named : towerOf b.toNat with
  | none => rfl
  | some k =>
    have number := towerOf_eq_some_iff.mp named
    refine Option.filter_eq_none_iff.mpr fun j hj => ?_
    cases hj
    rcases h with rfl | above
    · exact absurd number (Nat.succ_ne_zero _).symm
    · simp only [State.inArray, decide_eq_true_eq]
      omega

theorem arrayTower_of_gt {b : Byte} (h : 12 < b.toNat) : arrayTower s b = none := by
  rw [arrayTower, show towerOf b.toNat = none from dif_neg (by omega)]
  rfl

theorem arrayTower_of_number {b : Byte} {k : Tower} (inside : k.val < s.settings.arraySize) (h : b.toNat = k.val + 1) :
    arrayTower s b = some k := by
  rw [arrayTower, towerOf_eq_some_iff.mpr h]
  exact Option.filter_eq_some_iff.mpr ⟨rfl, decide_eq_true inside⟩

/-! ### The switch set -/

/-- A tower leaves the switch set with its held target, and one that is not in it leaves nothing behind. -/
theorem leaveSwitchSet_eq {c : Context} (array : s.shift.array = .shifting c) (t : Tower) : leaveSwitchSet t s =
    (if t ∈ c.switchSet then setCommanded t none s else s).setArray
      (.shifting { c with switchSet := c.switchSet.filter fun u => u != t }) := by
  rw [leaveSwitchSet, array]
  dsimp only
  by_cases member : t ∈ c.switchSet
  · rw [if_pos member, if_pos member]
    rfl
  · have same : (c.switchSet.filter fun u => u != t) = c.switchSet :=
      List.filter_eq_self.mpr fun u hu => bne_iff_ne.mpr fun h => member (h ▸ hu)
    rw [if_neg member, if_neg member, same, ← array]
    rfl

theorem zeroStart_eq {c : Context} (array : s.shift.array = .shifting c) (t : Tower) :
    zeroStart t s = s.setArray (.shifting { c with startA := c.startA.set t Cpx.zero }) := by
  rw [zeroStart, array]

theorem towerLocked_of_shifting {c : Context} (array : s.shift.array = .shifting c) (t : Tower) : towerLocked t s =
    endSwitchIfDone ((if t ∈ c.switchSet then setCommanded t none s else s).setArray
      (.shifting { c with startA := c.startA.set t Cpx.zero, switchSet := c.switchSet.filter fun u => u != t })) := by
  have zeroed : (zeroStart t s).shift.array = .shifting { c with startA := c.startA.set t Cpx.zero } := by
    rw [zeroStart_eq array]; rfl
  rw [towerLocked, array]
  dsimp only
  rw [leaveSwitchSet_eq zeroed, zeroStart_eq array]
  by_cases member : t ∈ c.switchSet
  · rw [if_pos member, if_pos member]
    rfl
  · rw [if_neg member, if_neg member]
    rfl

theorem towerLocked_of_not_shifting (h : ∀ c, s.shift.array ≠ .shifting c) (t : Tower) : towerLocked t s = s := by
  unfold towerLocked
  split
  · next c array => exact absurd array (h c)
  · rfl

/-! ### Tower Lockout and Tower Restore (R125, R126) -/

theorem isSettled_iff {n : NetState} : n.isSettled = true ↔ ∃ q, n = .settled q := by
  cases n <;> simp [NetState.isSettled]

theorem onOff_zero : onOff 0 = some false := rfl

theorem onOff_one : onOff 1 = some true := rfl

/-- Settles O52. -/
theorem tower_lockout_and_restore : Obligations.Tower_lockout_and_restore := by
  intro s p tag tower value admits
  have locks : exec (.towerLockout p tag tower value) s = placed p 18 tag (reqTowerLockout tower value s) :=
    arrives_eq_placed admits 18 tag _
  have restores : exec (.towerRestore p tag tower) s = placed p 19 tag (reqTowerRestore tower s) :=
    arrives_eq_placed admits 19 tag _
  rw [locks, restores]
  constructor
  · intro out
    rw [reqTowerLockout, reqTowerRestore, arrayTower_of_out out]
    exact ⟨rfl, rfl⟩
  · intro k inside number e locked
    have named := arrayTower_of_number inside number
    refine ⟨fun big => ?bad, fun off => ?off, fun on => ?on, ?restore⟩
    case bad =>
      rw [reqTowerLockout, named]
      dsimp only
      rw [onOff_of_gt (by omega)]
      rfl
    case off =>
      rw [reqTowerLockout, named, off, onOff_zero]
      rfl
    case on =>
      rw [reqTowerLockout, named, on, onOff_one]
      dsimp only
      by_cases moving : (s.net k).state.isMoving = true
      · rw [if_pos moving, if_pos moving]
        rfl
      by_cases driven : s.drivenInUse k = true
      · rw [if_neg moving, if_neg moving, if_pos driven, if_pos driven]
        rfl
      rw [if_neg moving, if_neg moving, if_neg driven, if_neg driven]
      by_cases before : e.lockout = true
      · rw [if_pos before, if_pos before]
        rfl
      rw [if_neg before, if_neg before]
      refine congrArg (fun x => Host.Outcome.next (placeReply p 18 tag (replyOk (lockoutReply false true)) x)) ?_
      cases array : s.shift.array with
      | shifting c => exact towerLocked_of_shifting (s := locked) array k
      | _ => exact towerLocked_of_not_shifting (s := locked) (fun c h => by cases array.symm.trans h) k
    case restore =>
      rw [reqTowerRestore, named]
      dsimp only
      by_cases refuses : e.paFault = true ∨ e.present = false ∨ ¬∃ q, (s.net k).state = .settled q
      · rw [if_pos refuses, if_pos]
        · rfl
        · simpa [← isSettled_iff, or_assoc] using refuses
      · rw [if_neg refuses, if_neg]
        · rfl
        · simpa [← isSettled_iff, or_assoc] using refuses

/-! ### The Schedule Table (R150, R151) -/

theorem getLsbD_seven {b : Byte} : b.getLsbD 7 = true ↔ 128 ≤ b.toNat := by
  rw [← BitVec.msb_eq_getLsbD_last (x := b), BitVec.msb_eq_decide, decide_eq_true_eq]

theorem scheduleOperands_of_bad {time : Triple} {days pattern : Byte}
    (h : 86399 < time.toNat ∨ days = 0 ∨ 128 ≤ days.toNat ∨ 8 ≤ pattern.toNat) : scheduleOperands time days pattern = none := by
  unfold scheduleOperands
  split
  · rfl
  · next good => rw [getLsbD_seven] at good; rw [slotOf_of_ge (by tauto)]; rfl

theorem scheduleOperands_of_good {time : Triple} {days pattern : Byte} {q : Slot} (ht : time.toNat ≤ 86399) (hd : days ≠ 0)
    (small : days.toNat < 128) (hq : pattern.toNat = q.val) : scheduleOperands time days pattern =
      some { time := time.toNat, days := BitVec.ofNat 7 days.toNat, pattern := q } := by
  have good : ¬(86399 < time.toNat ∨ days = 0 ∨ days.getLsbD 7 = true) := by
    rw [getLsbD_seven]
    rintro (h | h | h)
    · omega
    · exact hd h
    · omega
  rw [scheduleOperands, if_neg good, hq, slotOf_val]
  rfl

theorem any_time_iff {es : List ScheduleEntry} {n : Nat} : (es.any fun x => x.time == n) = true ↔ ∃ e ∈ es, e.time = n := by
  simp

/-- An entry of a new time takes its place between the earlier and the later ones. -/
theorem insertByTime_eq {e : ScheduleEntry} {es : List ScheduleEntry} (sorted : es.Pairwise fun a b => a.time < b.time)
    (new : ∀ x ∈ es, x.time ≠ e.time) : insertByTime e es =
      (es.filter fun x => x.time < e.time) ++ [e] ++ es.filter fun x => e.time < x.time := by
  induction es with
  | nil => rfl
  | cons x xs ih =>
    obtain ⟨later, sorted⟩ := List.pairwise_cons.mp sorted
    by_cases before : e.time < x.time
    · have none : ((x :: xs).filter fun y => y.time < e.time) = [] :=
        List.filter_eq_nil_iff.mpr fun y hy => by
          rcases List.mem_cons.mp hy with rfl | hy
          · simpa using before.le
          · simpa using (before.trans (later y hy)).le
      have all : ((x :: xs).filter fun y => e.time < y.time) = x :: xs :=
        List.filter_eq_self.mpr fun y hy => by
          rcases List.mem_cons.mp hy with rfl | hy
          · simpa using before
          · simpa using before.trans (later y hy)
      rw [insertByTime, if_pos before, none, all]
      rfl
    · have after : x.time < e.time := lt_of_le_of_ne (Nat.not_lt.mp before) (new x (by simp))
      rw [insertByTime, if_neg before, ih sorted (fun y hy => new y (by simp [hy])), List.filter_cons_of_pos (by simpa using after),
        List.filter_cons_of_neg (by simpa using after.le)]
      rfl

/-- Its place is behind the earlier entries. -/
theorem findIdx_insertByTime {e : ScheduleEntry} {es : List ScheduleEntry} (sorted : es.Pairwise fun a b => a.time < b.time)
    (new : ∀ x ∈ es, x.time ≠ e.time) :
    (insertByTime e es).findIdx (fun x => x.time == e.time) = (es.filter fun x => x.time < e.time).length := by
  have earlier : (es.filter fun x => x.time < e.time).findIdx (fun x => x.time == e.time)
      = (es.filter fun x => x.time < e.time).length := by
    refine List.findIdx_eq_length.mpr fun x hx => ?_
    simpa using new x (List.mem_filter.mp hx).1
  rw [insertByTime_eq sorted new, List.append_assoc, List.findIdx_append, earlier, if_neg (Nat.lt_irrefl _)]
  simp [List.findIdx_cons]

/-- Settles O53. -/
theorem time_and_schedule_requests : Obligations.Time_and_schedule_requests := by
  constructor
  · intro s p tag second weekday admits before
    refine (arrives_eq_placed admits 21 tag (reqTimeSet second weekday)).trans ?_
    by_cases day : weekday.toNat < 7
    · rw [reqTimeSet, weekdayOf, dif_pos day]
      dsimp only
      by_cases late : 86399 < second.toNat
      · rw [if_pos late, dif_neg (fun h => by omega)]
        rfl
      · rw [if_neg late, dif_pos ⟨Nat.not_lt.mp late, day⟩]
        rfl
    · rw [reqTimeSet, weekdayOf, dif_neg day, dif_neg (fun h => day h.2)]
      rfl
  · intro s p tag admits law es
    obtain ⟨_, _, _, sorted, _⟩ := law
    refine ⟨fun time days pattern => ?add, fun time => ?delete, arrives_eq_placed admits 24 tag reqScheduleClear,
      fun value => ?hold⟩
    case add =>
      have adds : exec (.scheduleAdd p tag time days pattern) s = placed p 22 tag (reqScheduleAdd time days pattern s) :=
        arrives_eq_placed admits 22 tag _
      rw [adds, reqScheduleAdd]
      refine ⟨fun bad => ?_, fun q ht hd small hq => ?_⟩
      · rw [scheduleOperands_of_bad bad]
        rfl
      rw [scheduleOperands_of_good ht hd small hq]
      dsimp only
      refine ⟨fun held => ?_, fun new full => ?_, fun new room => ?_⟩
      · rw [if_pos (any_time_iff.mpr held)]
        rfl
      · rw [if_neg (fun h => let ⟨e, he, same⟩ := any_time_iff.mp h; new e he same), if_pos (show Config.scheduleDepth ≤ s.schedule.entries.length from full.ge)]
        rfl
      · rw [if_neg (fun h => let ⟨e, he, same⟩ := any_time_iff.mp h; new e he same),
          if_neg (show ¬Config.scheduleDepth ≤ s.schedule.entries.length from Nat.not_le.mpr room), insertByTime_length]
        have place := findIdx_insertByTime
          (e := { time := time.toNat, days := BitVec.ofNat 7 days.toNat, pattern := q }) sorted new
        have entries := insertByTime_eq
          (e := { time := time.toNat, days := BitVec.ofNat 7 days.toNat, pattern := q }) sorted new
        dsimp only at place
        rw [place, entries]
        rfl
    case delete =>
      refine (arrives_eq_placed admits 23 tag (reqScheduleDelete time)).trans ?_
      simp only [reqScheduleDelete, placed_ite, any_time_iff]
      split
      · rfl
      · split <;> rfl
    case hold =>
      refine (arrives_eq_placed admits 25 tag (reqScheduleHold value)).trans ?_
      by_cases small : value.toNat ≤ 1
      · rw [reqScheduleHold, onOff_of_le small, if_pos small]
        rfl
      · rw [reqScheduleHold, onOff_of_gt small, if_neg small]
        rfl

end Sys2Proof.Machine
end

section
/-! PROOFS. The value bytes of the replies that read state (O43). -/

namespace Sys2Proof.Machine

theorem ofInt_toNat (x : Int) : (BitVec.ofInt 16 x).toNat = (x % 65536).toNat := by
  rw [BitVec.toNat_ofInt]
  rfl

theorem unusable_eq_decide (s : State) (k : Tower) : s.unusable k = decide ((s.tower k).causes ≠ Causes.none) := by
  rw [State.unusable, Bool.eq_iff_iff, Causes.any_iff, decide_eq_true_eq]

theorem outside_eq_decide (s : State) (k : Tower) : (!s.inArray k) = decide (s.settings.arraySize ≤ k.val) := by
  rw [State.inArray, Bool.eq_iff_iff]
  simp

theorem membershipBytes_of_window {s : State} {w : Window} (h : s.monitor.window = some w) (k : Tower) :
    membershipBytes s k = if w.tested k = true then [1] ++ u8 (w.acc.get k).count else [0, 255] := by
  unfold membershipBytes
  rw [h]
  by_cases member : w.tested k = true
  · rw [if_pos member, show (some w).filter (fun w => w.tested k) = some w from if_pos member]
    rfl
  · rw [if_neg member, show (some w).filter (fun w => w.tested k) = none from if_neg member]
    rfl

/-- Settles O43. -/
theorem reply_value_bytes : Obligations.Reply_value_bytes := by
  unfold Obligations.Reply_value_bytes
  intro one two three five signed complex set yes pattern tower position port level cause reason origin none' weekclock state
    marks
  have complex_eq : ∀ x : Cpx, pair x = complex x := by
    intro x
    simp only [pair, s16, complex, signed, ofInt_toNat]
    rfl
  have pattern_eq : ∀ p : Option Slot, orNone 1 slotByte p = pattern p := by intro p; cases p <;> rfl
  have tower_eq : ∀ k : Option Tower, orNone 1 towerByte k = tower k := by intro k; cases k <;> rfl
  have position_eq : ∀ p : Option Pos, orNone 1 posByte p = position p := by intro p; cases p <;> rfl
  have reason_eq : ∀ r : Reason, u8 r.number = one (reason r) := by intro r; cases r <;> rfl
  have cause_eq : ∀ c : OrderCause, u8 c.number = one (cause c) := by intro c; cases c <;> rfl
  have yes_eq : ∀ b : Bool, flag b = yes b := fun _ => rfl
  have level_eq : ∀ b : Bool, u8 (levelNumber b) = level b := fun _ => rfl
  have port_eq : ∀ p : Port, u8 (Port.number p) = port p := by intro p; cases p <;> rfl
  have state_eq : ∀ r : PatternRecord, u8 r.number = state r := by intro r; cases r <;> rfl
  have bits : ∀ a b c d e : Bool, bitSet [a, b, c, d, e] = set [(1, a), (2, b), (4, c), (8, d), (16, e)] := by decide
  have bits4 : ∀ a b c d : Bool, bitSet [a, b, c, d] = set [(1, a), (2, b), (4, c), (8, d)] := by decide
  have marks_eq : ∀ (s : State) (p : Slot), markSet s p = marks s p := fun s p => congrArg u8 (bits4 _ _ _ _)
  have origin_eq : ∀ o : Origin, originBytes o = origin o := by
    intro o
    cases o with
    | port p => cases p <;> rfl
    | time n => rfl
    | line l =>
      have lines : ∀ m : Line, originBytes (.line m) = [2, 0, 0, BitVec.ofNat 8 (m.val + 1)] := by decide
      exact lines l
    | pattern p =>
      have patterns : ∀ m : Slot, originBytes (.pattern m) = [3, 0, 0, BitVec.ofNat 8 m.val] := by decide
      exact patterns p
  refine ⟨fun s => ?status, fun s p => ?header, fun e => ?entry, fun x => ?table, fun n => ?net, fun s k => ?engine,
    fun r => ?monitor⟩
  case header =>
    have header : ∀ h : Header, headerBytes h = tower h.reference ++ position h.park ++ two h.cap ++ two h.ramp
        ++ two h.trimLimit ++ pattern h.fallback ++ yes h.monitorFallback := by
      intro h
      rw [headerBytes, tower_eq, pattern_eq]
      rfl
    unfold itemZero
    rw [← state_eq, ← marks_eq]
    cases s.record p with
    | empty => rfl
    | opened h es => exact congrArg (fun bs => u8 1 ++ markSet s p ++ (bs ++ u8 es.length ++ u40 (rawPower es))) (header h)
    | ready h es => exact congrArg (fun bs => u8 2 ++ markSet s p ++ (bs ++ u8 es.length ++ u40 (rawPower es))) (header h)
  case entry => simp only [entryBytes, complex_eq]; rfl
  case table =>
    unfold towerEntryBytes
    rw [causeSet, bits]
    cases x.lastSlot with
    | none => rfl
    | some r =>
      refine congrArg₂ (· ++ ·) rfl ?_
      rw [returnSlotBytes, complex_eq]
      refine congrArg (fun n => u8 n ++ complex (r.phasor.getD Cpx.zero)) ?_
      cases r.network with
      | travel => exact Nat.add_assoc ..
      | settled p =>
        exact (Nat.add_assoc ..).trans (congrArg (fun n => 128 + n + set [(8, r.paFault), (4, r.phasor.isSome)]) (Nat.mul_comm ..))
  case net =>
    unfold netBytes NetRecord.travelTime
    rw [← position_eq]
    cases n.state with
    | settled p => cases n.commanded <;> rfl
    | moving q p => cases n.commanded <;> rfl
    | _ => cases n.commanded <;> rfl
  case engine =>
    intro above faulty
    refine ⟨?_, fun none => by rw [membershipBytes, none]; rfl, fun w some => membershipBytes_of_window some k⟩
    have gated : s.gated k = (above || (s.tower k).lockout || faulty || s.mute) := by
      rw [State.gated, State.outOfService, outside_eq_decide, unusable_eq_decide, ← Bool.or_assoc]
    rw [engineBytes, complex_eq, gated, gateSet, bits4, outside_eq_decide, unusable_eq_decide]
    rfl
  case monitor =>
    rw [monRecordBytes, complex_eq]
    cases r.outcome <;> rfl
  case status =>
    intro array f failure patterns monitor selector source buffer line notice
    have switchSet_eq : ∀ ts : List Tower, towerSet ts = two (set (allTowers.map fun k => (2 ^ k.val, decide (k ∈ ts)))) := by
      intro ts
      simp only [towerSet, set, List.map_map, Function.comp_def, decide_eq_true_eq]
      rfl
    have context_eq : u8 s.shift.array.number
        ++ (match s.shift.array with
          | .steady p => slotByte p
          | _ => [255])
        ++ contextBytes s.shift.array = (match s.shift.array with
        | .noPattern => ([0, 255] : List Byte) ++ none' 18
        | .steady p => ([1] : List Byte) ++ one p.val ++ none' 18
        | .safe => ([3, 255] : List Byte) ++ none' 18
        | .shifting c =>
          ([2, 255] : List Byte) ++ pattern c.source ++ one (match c.prior with | .noPattern => 0 | .steady => 1 | .safe => 3)
            ++ pattern c.target ++ one (cause c.cause)
            ++ (match c.origin with | some o => origin o | none => none' 4)
            ++ one (match c.phase with | .drop => 0 | .switch => 1 | .cross => 2 | .verify => 3)
            ++ two (set (allTowers.map fun k => (2 ^ k.val, decide (k ∈ c.switchSet)))) ++ two c.stepCount
            ++ (match c.stepTotal with | some n => two n | none => none' 2) ++ two c.switchWait ++ one c.verifyUsed) := by
      cases s.shift.array with
      | shifting c =>
        have origins : orNone 4 originBytes c.origin = (match c.origin with | some o => origin o | none => none' 4) := by
          cases c.origin with
          | none => rfl
          | some o => exact origin_eq o
        have totals : orNone 2 u16 c.stepTotal = (match c.stepTotal with | some n => two n | none => none' 2) := by
          cases c.stepTotal <;> rfl
        have priors : u8 c.prior.number = one (match c.prior with | .noPattern => 0 | .steady => 1 | .safe => 3) := by
          cases c.prior <;> rfl
        have phases : u8 c.phase.number = one (match c.phase with | .drop => 0 | .switch => 1 | .cross => 2 | .verify => 3) := by
          cases c.phase <;> rfl
        simp only [contextBytes, pattern_eq, cause_eq, origins, totals, priors, phases, switchSet_eq, List.append_assoc]
        rfl
      | _ => rfl
    have orders_eq : ∀ o : Order, orderBytes o = pattern o.target ++ one (cause o.cause) ++ origin o.origin := by
      intro o
      rw [orderBytes, pattern_eq, cause_eq, origin_eq]
    have failure_eq : failureBytes s.shift.lastFailure = failure := by
      have reasons : ∀ r : Option Reason, orNone 1 (fun r : Reason => u8 r.number) r
          = one (match r with | some r => reason r | none => 255) := by
        intro r
        cases r with
        | none => rfl
        | some r => exact reason_eq r
      have causes : orNone 1 (fun c : OrderCause => u8 c.number) s.shift.lastFailure.cause
          = one (match f.cause with | some c => cause c | none => 255) := by
        change orNone 1 (fun c : OrderCause => u8 c.number) f.cause = _
        cases f.cause with
        | none => rfl
        | some c => exact cause_eq c
      have flags : orNone 1 flag f.flag = one (match f.flag with | some true => 1 | some false => 0 | none => 255) := by
        rcases f.flag with _ | (_ | _) <;> rfl
      have outcomes : orNone 1 (fun o : FailureOutcome => u8 o.number) f.outcome
          = one (match f.outcome with | some .fallback => 0 | some .safeDrop => 1 | none => 255) := by
        rcases f.outcome with _ | (_ | _) <;> rfl
      have kinds : u8 f.kind.number = one (match f.kind with | .none => 0 | .transition => 1 | .steady => 2) := by
        cases f.kind <;> rfl
      rw [failureBytes, kinds, reasons, causes, flags, outcomes, reasons, pattern_eq, tower_eq, pattern_eq]
      rfl
    have array_eq : arrayGroup s = array ++ failure := by
      have orders : s.shift.queue.map orderBytes
          = s.shift.queue.map fun o => pattern o.target ++ one (cause o.cause) ++ origin o.origin :=
        List.map_congr_left fun o _ => orders_eq o
      rw [arrayGroup, orders, failure_eq]
      exact congrArg (fun bs => bs ++ u8 s.shift.queue.length ++ (s.shift.queue.map fun o =>
        pattern o.target ++ one (cause o.cause) ++ origin o.origin).flatten ++ flag s.shift.fallbackFlag ++ failure) context_eq
    have patterns_eq : patternGroup s = patterns := by
      refine congrArg List.flatten (List.map_congr_left fun p _ => ?_)
      rw [state_eq, marks_eq]
      cases s.record p <;> rfl
    have monitor_eq : monitorGroup s = monitor := by
      dsimp only [monitorGroup, monitor]
      cases s.monitor.duty <;> cases s.monitor.window <;> rfl
    have selector_eq : selectorBytes s.selector = selector := by
      rw [selectorBytes, port_eq, port_eq]
      dsimp only [selector]
      cases s.selector.condition <;> cases s.selector.mode <;> rfl
    have buffer_eq : bufferBytes s.buffer = buffer := by
      rw [bufferBytes, complex_eq]
      rfl
    have line_eq : ∀ x, lineBytes x = line x := by
      intro x
      dsimp only [lineBytes, ContactLine.present, Sense.read, line]
      cases x.sense <;> cases x.action <;> rfl
    have notice_eq : ∀ x, noticeBytes x = notice x := by
      intro x
      dsimp only [noticeBytes, notice]
      cases x.level <;> rfl
    have sources : allSources = List.finRange 13 := by decide
    refine ⟨?_, selector_eq, rfl⟩
    rw [statusValues, array_eq, patterns_eq, monitor_eq, selector_eq, buffer_eq, sources]
    simp only [line_eq, notice_eq]
    rfl

end Sys2Proof.Machine
end

section
/-! PROOFS. The edits of an OPEN record (O46), Pattern Close (O47) and Weight Trim (O48). -/

namespace Sys2Proof.Machine

variable {s : State}

/-! ### Entry lists in tower order -/

theorem entryFor_isSome (es : List Entry) (k : Tower) : (entryFor es k).isSome = es.any fun e => e.tower == k := by
  rw [entryFor, List.isSome_find?]

theorem entryFor_eq_none_iff {es : List Entry} {k : Tower} : entryFor es k = none ↔ ∀ e ∈ es, e.tower ≠ k := by
  simp [entryFor]

theorem entryFor_of_mem {es : List Entry} (sorted : es.Pairwise fun a b => a.tower < b.tower) {e : Entry} (he : e ∈ es) :
    entryFor es e.tower = some e := by
  induction es with
  | nil => cases he
  | cons x xs ih =>
    obtain ⟨later, sorted⟩ := List.pairwise_cons.mp sorted
    rw [entryFor_cons]
    rcases List.mem_cons.mp he with rfl | he
    · exact if_pos rfl
    · rw [if_neg (later e he).ne, ih sorted he]

theorem mem_iff_entryFor {es : List Entry} (sorted : es.Pairwise fun a b => a.tower < b.tower) (e : Entry) :
    e ∈ es ↔ entryFor es e.tower = some e :=
  ⟨entryFor_of_mem sorted, fun h => (mem_of_entryFor h).1⟩

/-- An entry that takes its place leaves those of the other towers. -/
theorem mem_putEntry_of_ne {es : List Entry} (sorted : es.Pairwise fun a b => a.tower < b.tower) {e x : Entry}
    (h : x.tower ≠ e.tower) : x ∈ putEntry e es ↔ x ∈ es := by
  rw [mem_iff_entryFor (putEntry_pairwise sorted), mem_iff_entryFor sorted, entryFor_putEntry, if_neg (Ne.symm h)]

/-- The place of an entry that is put is the place at which it stands. -/
theorem getElem?_putEntry (e : Entry) (es : List Entry) :
    (putEntry e es)[(putEntry e es).findIdx fun x => x.tower == e.tower]? = some e := by
  induction es with
  | nil => simp [putEntry, List.findIdx_cons]
  | cons x xs ih =>
    unfold putEntry
    split
    · simp [List.findIdx_cons]
    · next other =>
      split
      · simp [List.findIdx_cons]
      · have passed : (x.tower == e.tower) = false := beq_eq_false_iff_ne.mpr other
        rw [List.findIdx_cons, passed]
        exact ih

/-- An entry put over that of its own tower takes its place. -/
theorem putEntry_eq_map {es : List Entry} (sorted : es.Pairwise fun a b => a.tower < b.tower) {e e' : Entry} (he : e ∈ es)
    (same : e'.tower = e.tower) : putEntry e' es = es.map fun x => if x.tower = e.tower then e' else x := by
  induction es with
  | nil => cases he
  | cons x xs ih =>
    obtain ⟨later, sorted⟩ := List.pairwise_cons.mp sorted
    rw [putEntry, same, List.map_cons]
    by_cases here : x.tower = e.tower
    · have rest : xs.map (fun y => if y.tower = e.tower then e' else y) = xs :=
        (List.map_congr_left fun y hy => if_neg fun h : y.tower = e.tower => (later y hy).ne (here.trans h.symm)).trans
          (List.map_id' xs)
      rw [if_pos here, if_pos here, rest]
    · have behind : e ∈ xs := (List.mem_cons.mp he).resolve_left fun h => here (congrArg Entry.tower h.symm)
      rw [if_neg here, if_neg here, if_neg (later e behind).asymm, ih sorted behind]

/-! ### Pattern Close (R11, R12) -/

theorem rawPower_eq (es : List Entry) :
    rawPower es = (es.map fun e => e.effective.re.natAbs ^ 2 + e.effective.im.natAbs ^ 2).sum := by
  simp only [rawPower, Cpx.power, pow_two]

theorem withinCap_eq_false {power cap : Nat} : withinCap power cap = false ↔ cap * 65536 < power := by
  rw [withinCap, decide_eq_false_iff_not, Nat.not_le]
  rfl

/-- The five checks in R11's order. -/
theorem closeCheck_eq (ceiling : Nat) (h : Header) (es : List Entry) : closeCheck ceiling h es =
    if es = [] then some .noEntries
    else if ¬∃ t ∈ h.reference, ∃ e ∈ es, e.tower = t then some .noReference
    else if ∃ e ∈ es, e.tolerance ≠ 0 ∧ h.reference ≠ some e.tower ∧ e.expected = ⟨0, 0⟩ then some .zeroExpected
    else if ceiling < h.cap then some .capAboveCeiling
    else if h.cap * 65536 < rawPower es then some .capExceeded
    else none := by
  by_cases empty : es = []
  · rw [if_pos empty, closeCheck, if_pos (List.isEmpty_iff.mpr empty)]
  rw [if_neg empty, closeCheck, if_neg (mt List.isEmpty_iff.mp empty)]
  cases reference : h.reference with
  | none => rw [if_pos (fun ⟨t, ht, _⟩ => by cases ht)]
  | some r =>
    have named : (entryFor es r).isNone = true ↔ ¬∃ t ∈ some r, ∃ e ∈ es, e.tower = t := by
      rw [Option.isNone_iff_eq_none, entryFor_eq_none_iff]
      exact ⟨fun other ⟨t, ht, e, he, same⟩ => other e he (same.trans (Option.some.inj ht).symm),
        fun lost e he same => lost ⟨r, rfl, e, he, same⟩⟩
    have zero : (es.any fun e => e.tolerance != 0 && e.tower != r && e.expected == Cpx.zero) = true ↔
        ∃ e ∈ es, e.tolerance ≠ 0 ∧ some r ≠ some e.tower ∧ e.expected = ⟨0, 0⟩ := by
      simp [and_assoc, Cpx.zero, eq_comm (a := r)]
    dsimp only
    by_cases lost : (entryFor es r).isNone = true
    · rw [if_pos lost, if_pos (named.mp lost)]
    rw [if_neg lost, if_neg (mt named.mpr lost)]
    by_cases zeros : (es.any fun e => e.tolerance != 0 && e.tower != r && e.expected == Cpx.zero) = true
    · rw [if_pos zeros, if_pos (zero.mp zeros)]
    · rw [if_neg zeros, if_neg (mt zero.mpr zeros)]
      simp only [withinCap_eq_false]

/-- Settles O47. -/
theorem pattern_close_checks : Obligations.Pattern_close_checks := by
  have closes {s : State} {p : Port} (admits : s.admits p) (tag pattern : Byte) :
      exec (.patternClose p tag pattern) s = placed p 11 tag (reqPatternClose pattern s) := arrives_eq_placed admits 11 tag _
  refine ⟨fun s p tag pattern admits big => ?_, fun s p tag q admits => ?_⟩
  · rw [closes admits, reqPatternClose, slotOf_of_ge big]
    rfl
  · intro failed
    rw [closes admits, reqPatternClose, slotOf_ofNat]
    dsimp only
    cases s.record q with
    | opened h es =>
      dsimp only
      rw [closeCheck_eq, ← rawPower_eq]
      by_cases empty : es = []
      · rw [if_pos empty, if_pos empty]
        rfl
      rw [if_neg empty, if_neg empty]
      by_cases lost : ¬∃ t ∈ h.reference, ∃ e ∈ es, e.tower = t
      · rw [if_pos lost, if_pos lost]
        rfl
      rw [if_neg lost, if_neg lost]
      by_cases zeros : ∃ e ∈ es, e.tolerance ≠ 0 ∧ h.reference ≠ some e.tower ∧ e.expected = ⟨0, 0⟩
      · rw [if_pos zeros, if_pos zeros]
        rfl
      rw [if_neg zeros, if_neg zeros]
      by_cases above : s.settings.ceiling < h.cap
      · rw [if_pos above, if_pos above]
        rfl
      rw [if_neg above, if_neg above]
      by_cases exceeds : h.cap * 65536 < rawPower es
      · rw [if_pos exceeds, if_pos exceeds]
        rfl
      · rw [if_neg exceeds, if_neg exceeds]
        rfl
    | _ => rfl

/-! ### Weight Trim (R15, R16) -/

theorem clampTrim_eq (limit : Nat) (x : Int) : clampTrim limit x = max (-(limit : Int)) (min (limit : Int) x) := by
  unfold clampTrim clampInt
  split
  · omega
  · split <;> omega

theorem signed16_half (v : Half) : signed16 v.toNat = v.toInt := by
  have small := v.isLt
  rw [BitVec.toInt_eq_toNat_cond, signed16]
  split <;> split <;> omega

theorem ofNat_tower (k : Tower) : (BitVec.ofNat 8 (k.val + 1) : Byte).toNat = k.val + 1 := by
  rw [BitVec.toNat_ofNat]
  omega

theorem collides_iff {p : Slot} : s.collides p = true ↔ (s.markSource p || s.markTarget p) = true := Iff.rfl

theorem applyLiveTrim_eq (p : Slot) (e : Entry) (u : State) : applyLiveTrim p e u =
    if u.shift.array = .steady p then
      restartWindow (u.setLive (u.engine.live.set e.tower (if u.zeroHold e.tower then Cpx.zero else e.effective)))
    else u := by
  simp only [applyLiveTrim, markLive_iff]
  rfl

theorem reqWeightTrim_not_ready {pattern tower : Byte} {q : Slot} (number : slotOf pattern.toNat = some q)
    (h : (s.record q).isReady = false) (dre dim : Half) : reqWeightTrim pattern tower dre dim s = refused .badState s := by
  rw [reqWeightTrim, number]
  dsimp only
  cases record : s.record q with
  | ready => rw [record] at h; cases h
  | _ => rfl

section
variable {pattern tower : Byte} {q : Slot} (number : slotOf pattern.toNat = some q) {h : Header} {es : List Entry}
  (record : s.record q = .ready h es) (dre dim : Half)
include number record

theorem reqWeightTrim_outside (out : arrayTower s tower = none) :
    reqWeightTrim pattern tower dre dim s = refused .badValue s := by
  rw [reqWeightTrim, number]
  dsimp only
  rw [record]
  dsimp only
  rw [out]

theorem reqWeightTrim_missing {k : Tower} (inside : arrayTower s tower = some k) (missing : entryFor es k = none) :
    reqWeightTrim pattern tower dre dim s = refused .notFound s := by
  rw [reqWeightTrim, number]
  dsimp only
  rw [record]
  dsimp only
  rw [inside]
  dsimp only
  rw [missing]

theorem reqWeightTrim_found {k : Tower} (inside : arrayTower s tower = some k) {e e' : Entry} (found : entryFor es k = some e)
    (trim : trimmed h.trimLimit e ⟨signed16 dre.toNat, signed16 dim.toNat⟩ = e') :
    reqWeightTrim pattern tower dre dim s =
      if s.collides q then refused .collision s
      else if withinCap (rawPower (putEntry e' es)) h.cap then
        answered (applyLiveTrim q e' (s.setRecord q (.ready h (putEntry e' es))))
          (pair e'.trim ++ pair e'.effective ++ u40 (rawPower (putEntry e' es)))
      else (s, checkFailed .capExceeded (u40 (rawPower (putEntry e' es)))) := by
  subst trim
  rw [reqWeightTrim, number]
  dsimp only
  rw [record]
  dsimp only
  rw [inside]
  dsimp only
  rw [found]

end

theorem ready_of_isReady {r : PatternRecord} (h : r.isReady = true) : ∃ g es, r = .ready g es := by
  cases r with
  | ready g es => exact ⟨g, es, rfl⟩
  | _ => cases h

/-- Settles O48. -/
theorem weight_trim : Obligations.Weight_trim := by
  have trims {s : State} {p : Port} (admits : s.admits p) (tag pattern tower : Byte) (dre dim : Half) :
      exec (.weightTrim p tag pattern tower dre dim) s = placed p 14 tag (reqWeightTrim pattern tower dre dim s) :=
    arrives_eq_placed admits 14 tag _
  constructor
  · intro s p tag pattern tower dre dim admits
    rw [trims admits]
    refine ⟨fun big => ?_, fun q number => ⟨fun open' => ?_, fun ready bad => ?_⟩⟩
    · rw [reqWeightTrim, slotOf_of_ge big]
      rfl
    · rw [reqWeightTrim_not_ready (by rw [number, slotOf_val]) open']
      rfl
    · obtain ⟨h, es, record⟩ := ready_of_isReady ready
      have out : arrayTower s tower = none := by
        rcases bad with zero | above | big
        · exact arrayTower_of_out (.inl zero)
        · exact arrayTower_of_out (.inr above)
        · exact arrayTower_of_gt big
      rw [reqWeightTrim_outside (by rw [number, slotOf_val]) record dre dim out]
      rfl
  · intro s p tag q k dre dim admits law command answer
    have run : exec command s = _ := trims admits tag _ _ dre dim
    rw [run]
    refine ⟨fun open' => ?_, fun h es record => ?_⟩
    · rw [reqWeightTrim_not_ready (slotOf_ofNat q) open']
      rfl
    refine ⟨fun outside => ?_, fun inside missing => ?_, fun e he same => ?_⟩
    · rw [reqWeightTrim_outside (slotOf_ofNat q) record dre dim (arrayTower_of_out (.inr (by rw [ofNat_tower]; omega)))]
      rfl
    · rw [reqWeightTrim_missing (slotOf_ofNat q) record dre dim (arrayTower_of_number inside (ofNat_tower k))
        (entryFor_eq_none_iff.mpr missing)]
      rfl
    intro limit clamp e' es' power stored
    have legal := law q h (by rw [record]; rfl)
    rw [record] at legal
    obtain ⟨_, sorted, entries⟩ := legal
    have inside : k.val < s.settings.arraySize := by
      obtain ⟨below, _⟩ := entries e he
      rwa [← same]
    have found : entryFor es k = some e := same ▸ entryFor_of_mem sorted he
    have trim : trimmed h.trimLimit e ⟨signed16 dre.toNat, signed16 dim.toNat⟩ = e' := by
      simp only [trimmed, clampTrim_eq, signed16_half]
      rfl
    have list : putEntry e' es = es' := (putEntry_eq_map (es := es) (e' := e') sorted he rfl).trans (by rw [same])
    rw [reqWeightTrim_found (slotOf_ofNat q) record dre dim (arrayTower_of_number inside (ofNat_tower k)) found trim, list]
    by_cases collides : s.collides q = true
    · rw [if_pos collides, if_pos (collides_iff.mp collides)]
      rfl
    rw [if_neg collides, if_neg (mt collides_iff.mpr collides)]
    by_cases exceeds : h.cap * 65536 < power
    · have beyond : ¬withinCap (rawPower es') h.cap = true := by
        rw [Bool.not_eq_true]; exact withinCap_eq_false.mpr exceeds
      rw [if_pos exceeds, if_neg beyond]
      rfl
    · have within : withinCap (rawPower es') h.cap = true := by
        by_contra beyond
        exact exceeds (withinCap_eq_false.mp (Bool.not_eq_true _ ▸ beyond))
      have live : applyLiveTrim q e' stored = if s.shift.array = .steady q then
          restartWindow (stored.setLive (s.engine.live.set k (if s.zeroHold k then ⟨0, 0⟩ else e'.effective)))
          else stored := by
        rw [applyLiveTrim_eq, ← same]
        rfl
      rw [if_neg exceeds, if_pos within, live]
      rfl

end Sys2Proof.Machine
end

section
/-! PROOFS. The edits of an OPEN record (O46). -/

namespace Sys2Proof.Machine

variable {s : State}

/-! ### The operands of the edits -/

theorem posOf_ofNat (k : Pos) : posOf (BitVec.ofNat 8 k.val : Byte).toNat = some k := by
  rw [BitVec.toNat_ofNat, show k.val % 2 ^ 8 = k.val by omega]
  exact dif_pos k.isLt

theorem posOf_of_gt {n : Nat} (h : 3 < n) : posOf n = none := dif_neg (by omega)

theorem ofNat_ne_255 {n : Nat} (h : n < 255) : (BitVec.ofNat 8 n : Byte) ≠ 255 := by
  intro same
  have value := congrArg BitVec.toNat same
  rw [BitVec.toNat_ofNat] at value
  change n % 256 = 255 at value
  omega

theorem referenceOperand_ofNat {k : Tower} (inside : k.val < s.settings.arraySize) :
    referenceOperand s (BitVec.ofNat 8 (k.val + 1)) = some (some k) := by
  rw [referenceOperand, if_neg (ofNat_ne_255 (by omega)), arrayTower_of_number inside (ofNat_tower k)]
  rfl

theorem referenceOperand_of_bad {b : Byte} (h : b = 0 ∨ s.settings.arraySize < b.toNat) (other : b ≠ 255) :
    referenceOperand s b = none := by
  rw [referenceOperand, if_neg other, arrayTower_of_out h]
  rfl

theorem fallbackOperand_ofNat {q g : Slot} (other : g ≠ q) : fallbackOperand q (BitVec.ofNat 8 g.val) = some (some g) := by
  have kept : (some g).filter (fun x => x != q) = some g := Option.filter_eq_some_iff.mpr ⟨rfl, bne_iff_ne.mpr other⟩
  rw [fallbackOperand, if_neg (ofNat_ne_255 (by omega)), slotOf_ofNat, kept]
  rfl

theorem fallbackOperand_of_gt (q : Slot) {b : Byte} (h : 7 < b.toNat) (other : b ≠ 255) : fallbackOperand q b = none := by
  rw [fallbackOperand, if_neg other, slotOf_of_ge h]
  rfl

theorem fallbackOperand_self {q : Slot} {b : Byte} (h : b.toNat = q.val) : fallbackOperand q b = none := by
  have other : b ≠ 255 := by rintro rfl; exact absurd h (by change ¬255 = q.val; omega)
  rw [fallbackOperand, if_neg other, h, slotOf_val, Option.filter_eq_none_iff.mpr]
  · rfl
  · intro g same
    cases same
    simp

section
variable {q : Slot} {reference park : Byte} {cap ramp limit : Half} {fallback option : Byte}

theorem headerOperands_of_good {r : Option Tower} {k : Pos} {f : Option Slot} {m : Bool}
    (hr : referenceOperand s reference = some r) (hk : posOf park.toNat = some k) (hf : fallbackOperand q fallback = some f)
    (hm : onOff option = some m) (range : 1 ≤ ramp.toNat ∧ ramp.toNat ≤ 4000 ∧ limit.toNat ≤ 2048) :
    headerOperands s q reference park cap ramp limit fallback option =
      some { reference := r, park := k, cap := cap.toNat, ramp := ramp.toNat, trimLimit := limit.toNat, fallback := f,
             monitorFallback := m } := by
  simp only [headerOperands, hr, hk, hf, hm, Option.bind_eq_bind, Option.bind_some, if_pos range]

theorem headerOperands_of_bad (h : referenceOperand s reference = none ∨ posOf park.toNat = none
      ∨ fallbackOperand q fallback = none ∨ onOff option = none
      ∨ ¬(1 ≤ ramp.toNat ∧ ramp.toNat ≤ 4000 ∧ limit.toNat ≤ 2048)) :
    headerOperands s q reference park cap ramp limit fallback option = none := by
  rcases h with h | h | h | h | h <;> simp [headerOperands, h]

end

theorem half_ne_neg {v : Half} (h : v ≠ 32768) : signed16 v.toNat ≠ -32768 := by
  rw [signed16_half]
  exact fun same => h (BitVec.eq_of_toInt_eq same)

theorem entryOperands_of_good {k : Tower} {wre wim xre xim : Half} {pos : Pos} (inside : k.val < s.settings.arraySize)
    (h1 : wre ≠ 32768) (h2 : wim ≠ 32768) (h3 : xre ≠ 32768) (h4 : xim ≠ 32768) (tol : Byte) :
    entryOperands s (BitVec.ofNat 8 (k.val + 1)) wre wim (BitVec.ofNat 8 pos.val) xre xim tol =
      some { tower := k, loaded := ⟨wre.toInt, wim.toInt⟩, position := pos, expected := ⟨xre.toInt, xim.toInt⟩,
             tolerance := tol.toNat, trim := Cpx.zero } := by
  have good : ¬(signed16 wre.toNat = -32768 ∨ signed16 wim.toNat = -32768 ∨ signed16 xre.toNat = -32768
      ∨ signed16 xim.toNat = -32768) := by
    simp only [not_or]
    exact ⟨half_ne_neg h1, half_ne_neg h2, half_ne_neg h3, half_ne_neg h4⟩
  simp only [entryOperands, arrayTower_of_number inside (ofNat_tower k), posOf_ofNat, Option.bind_eq_bind, Option.bind_some,
    if_neg good]
  simp only [signed16_half]

theorem entryOperands_of_bad {tower position tol : Byte} {wre wim xre xim : Half}
    (h : tower = 0 ∨ s.settings.arraySize < tower.toNat ∨ wre = 32768 ∨ wim = 32768 ∨ xre = 32768 ∨ xim = 32768
      ∨ 3 < position.toNat) : entryOperands s tower wre wim position xre xim tol = none := by
  have weakest : ∀ v : Half, v = 32768 → signed16 v.toNat = -32768 := by rintro v rfl; rfl
  unfold entryOperands
  by_cases out : arrayTower s tower = none
  · rw [out]
    rfl
  by_cases wrong : posOf position.toNat = none
  · rw [wrong]
    cases arrayTower s tower <;> rfl
  obtain ⟨t, ht⟩ := Option.ne_none_iff_exists'.mp out
  obtain ⟨k, hk⟩ := Option.ne_none_iff_exists'.mp wrong
  rw [ht, hk]
  refine if_pos ?_
  rcases h with h | h | h | h | h | h | h
  · exact absurd (arrayTower_of_out (.inl h)) out
  · exact absurd (arrayTower_of_out (.inr h)) out
  · exact .inl (weakest _ h)
  · exact .inr (.inl (weakest _ h))
  · exact .inr (.inr (.inl (weakest _ h)))
  · exact .inr (.inr (.inr (weakest _ h)))
  · exact absurd (posOf_of_gt h) wrong

/-! ### The edits -/

theorem clampCount_component (limit : Nat) (x : Int) :
    (if clampTrim limit x = x then 0 else 1) = if limit < x.natAbs then 1 else 0 := by
  rw [clampTrim_eq]
  split <;> split <;> omega

theorem Entry.clamped_eq (limit : Nat) (e : Entry) : e.clamped limit =
    { e with trim := ⟨max (-(limit : Int)) (min limit e.trim.re), max (-(limit : Int)) (min limit e.trim.im)⟩ } := by
  rw [Entry.clamped, clampTrim_eq, clampTrim_eq]

theorem Entry.clampCount_eq (limit : Nat) (e : Entry) : e.clampCount limit =
    (if limit < e.trim.re.natAbs then 1 else 0) + if limit < e.trim.im.natAbs then 1 else 0 := by
  rw [Entry.clampCount, clampCount_component, clampCount_component]

section
variable {pattern : Byte} {q : Slot} (number : slotOf pattern.toNat = some q)
include number

section
variable (closed : ∀ h es, s.record q ≠ .opened h es)
include closed

theorem reqPatternHeader_of_closed (reference park : Byte) (cap ramp limit : Half) (fallback option : Byte) :
    reqPatternHeader pattern reference park cap ramp limit fallback option s = refused .badState s := by
  rw [reqPatternHeader, number]
  dsimp only
  cases record : s.record q with
  | opened h es => exact absurd record (closed h es)
  | _ => rfl

theorem reqTowerEntry_of_closed (tower : Byte) (wre wim : Half) (position : Byte) (xre xim : Half) (tol : Byte) :
    reqTowerEntry pattern tower wre wim position xre xim tol s = refused .badState s := by
  rw [reqTowerEntry, number]
  dsimp only
  cases record : s.record q with
  | opened h es => exact absurd record (closed h es)
  | _ => rfl

theorem reqTowerEntryRemove_of_closed (tower : Byte) : reqTowerEntryRemove pattern tower s = refused .badState s := by
  rw [reqTowerEntryRemove, number]
  dsimp only
  cases record : s.record q with
  | opened h es => exact absurd record (closed h es)
  | _ => rfl

end

variable {h : Header} {es : List Entry} (record : s.record q = .opened h es)
include record

theorem reqPatternHeader_of_open {reference park : Byte} {cap ramp limit : Half} {fallback option : Byte} {g : Option Header}
    (operands : headerOperands s q reference park cap ramp limit fallback option = g) :
    reqPatternHeader pattern reference park cap ramp limit fallback option s =
      g.elim (refused .badValue s) fun x => answered (s.setRecord q (.opened x (es.map (Entry.clamped x.trimLimit))))
        (u8 ((es.map (Entry.clampCount x.trimLimit)).sum)) := by
  rw [reqPatternHeader, number]
  dsimp only
  rw [record]
  dsimp only
  rw [operands]
  cases g <;> rfl

theorem reqTowerEntry_of_open {tower : Byte} {wre wim : Half} {position : Byte} {xre xim : Half} {tol : Byte} {g : Option Entry}
    (operands : entryOperands s tower wre wim position xre xim tol = g) :
    reqTowerEntry pattern tower wre wim position xre xim tol s =
      g.elim (refused .badValue s) fun e => answered (s.setRecord q (.opened h (putEntry e es)))
        (u8 (entryIndex (putEntry e es) e.tower) ++ flag (entryFor es e.tower).isSome) := by
  rw [reqTowerEntry, number]
  dsimp only
  rw [record]
  dsimp only
  rw [operands]
  cases g <;> rfl

theorem reqTowerEntryRemove_of_open {tower : Byte} {g : Option Tower} (operands : arrayTower s tower = g) :
    reqTowerEntryRemove pattern tower s = g.elim (refused .badValue s) fun t =>
      if es.any fun e => e.tower == t then
        answered (s.setRecord q (.opened h (es.filter fun e => e.tower != t))) (u8 (es.filter fun e => e.tower != t).length)
      else refused .notFound s := by
  rw [reqTowerEntryRemove, number]
  dsimp only
  rw [record]
  dsimp only
  rw [operands]
  cases g with
  | none => rfl
  | some t =>
    dsimp only [Option.elim]
    rw [← entryFor_isSome]
    cases entryFor es t <;> rfl

end

/-- Settles O46. -/
theorem pattern_edits : Obligations.Pattern_edits := by
  have headers {s : State} {p : Port} (admits : s.admits p) (tag : Byte) (a b c : Byte) (d e f : Half) (g h : Byte) :
      exec (.patternHeader p tag a b c d e f g h) s = placed p 8 tag (reqPatternHeader a b c d e f g h s) :=
    arrives_eq_placed admits 8 tag _
  have entries {s : State} {p : Port} (admits : s.admits p) (tag : Byte) (a b : Byte) (c d : Half) (e : Byte) (f g : Half)
      (h : Byte) : exec (.towerEntry p tag a b c d e f g h) s = placed p 9 tag (reqTowerEntry a b c d e f g h s) :=
    arrives_eq_placed admits 9 tag _
  have removes {s : State} {p : Port} (admits : s.admits p) (tag a b : Byte) :
      exec (.towerEntryRemove p tag a b) s = placed p 10 tag (reqTowerEntryRemove a b s) := arrives_eq_placed admits 10 tag _
  refine ⟨?edit, ?big, ?refuse⟩
  case edit =>
    intro s p tag q h es admits record law number
    have legal := law q h (by rw [record]; rfl)
    rw [record] at legal
    obtain ⟨_, sorted, _⟩ := legal
    refine ⟨?header, ?entry, ?remove⟩
    case header =>
      intro r park cap ramp limit f option inside other low high small bound clamp beyond
      rw [headers admits, reqPatternHeader_of_open (slotOf_ofNat q) record (headerOperands_of_good (r := r) (f := f)
        (m := option) ?reference (posOf_ofNat park) ?fallback ?monitor ⟨low, high, small⟩)]
      case reference =>
        cases r with
        | none => rfl
        | some k => exact referenceOperand_ofNat (inside k rfl)
      case fallback =>
        cases f with
        | none => rfl
        | some g => exact fallbackOperand_ofNat fun same => other (congrArg some same)
      case monitor => cases option <;> rfl
      dsimp only [Option.elim]
      rw [show Entry.clamped limit.toNat = _ from funext (Entry.clamped_eq _),
        show Entry.clampCount limit.toNat = _ from funext (Entry.clampCount_eq _)]
      rfl
    case entry =>
      intro k wre wim pos xre xim tol inside h1 h2 h3 h4 e
      refine ⟨putEntry e es, (putEntry e es).findIdx fun x => x.tower == e.tower, ?_, getElem?_putEntry e es,
        putEntry_pairwise sorted, fun x hx => mem_putEntry_of_ne sorted hx⟩
      rw [entries admits, reqTowerEntry_of_open (slotOf_ofNat q) record (entryOperands_of_good inside h1 h2 h3 h4 tol),
        ← entryFor_isSome]
      rfl
    case remove =>
      intro k inside
      rw [removes admits, reqTowerEntryRemove_of_open (slotOf_ofNat q) record (arrayTower_of_number inside (ofNat_tower k))]
      exact (placed_ite ..).trans (apply_ite Host.Outcome.next ..).symm
  case big =>
    intro s p tag pattern admits big
    refine ⟨fun a b c d e f g => ?_, fun a b c d e f g => ?_, fun a => ?_⟩
    · rw [headers admits, reqPatternHeader, slotOf_of_ge big]
      rfl
    · rw [entries admits, reqTowerEntry, slotOf_of_ge big]
      rfl
    · rw [removes admits, reqTowerEntryRemove, slotOf_of_ge big]
      rfl
  case refuse =>
    intro s p tag q admits number
    have shut : s.record q = .empty ∨ (s.record q).isReady = true → ∀ h es, s.record q ≠ .opened h es := by
      intro closed h es record
      rw [record] at closed
      rcases closed with closed | closed <;> cases closed
    refine ⟨fun reference park cap ramp limit fallback option => ⟨fun closed => ?_, fun h es record bad => ?_⟩,
      fun tower wre wim position xre xim tol => ⟨fun closed => ?_, fun h es record bad => ?_⟩,
      fun tower => ⟨fun closed => ?_, fun h es record bad => ?_⟩⟩
    · rw [headers admits, reqPatternHeader_of_closed (slotOf_ofNat q) (shut closed)]
      rfl
    · rw [headers admits, reqPatternHeader_of_open (slotOf_ofNat q) record (headerOperands_of_bad ?_)]
      · rfl
      rcases bad with ⟨bad, other⟩ | bad | bad | bad | bad | ⟨bad, other⟩ | bad | bad
      · exact .inl (referenceOperand_of_bad bad other)
      · exact .inr (.inl (posOf_of_gt bad))
      · exact .inr (.inr (.inr (.inr fun range => absurd range.1 (by rw [bad]; decide))))
      · exact .inr (.inr (.inr (.inr fun range => by omega)))
      · exact .inr (.inr (.inr (.inr fun range => by omega)))
      · exact .inr (.inr (.inl (fallbackOperand_of_gt q bad other)))
      · exact .inr (.inr (.inl (fallbackOperand_self bad)))
      · exact .inr (.inr (.inr (.inl (onOff_of_gt (by omega)))))
    · rw [entries admits, reqTowerEntry_of_closed (slotOf_ofNat q) (shut closed)]
      rfl
    · rw [entries admits, reqTowerEntry_of_open (slotOf_ofNat q) record (entryOperands_of_bad bad)]
      rfl
    · rw [removes admits, reqTowerEntryRemove_of_closed (slotOf_ofNat q) (shut closed)]
      rfl
    · rw [removes admits, reqTowerEntryRemove_of_open (slotOf_ofNat q) record (arrayTower_of_out bad)]
      rfl

end Sys2Proof.Machine
end

section
/-! PROOFS. Sample Frames (O34), the other source frames (O35), and the beginning of a window (O29). -/

namespace Sys2Proof.Machine

variable {s : State}

/-! ### A Sample Frame (R131, R133, R135) -/

theorem raise_setPort (n : Notice) (p : Port) (x : PortState) (s : State) : raise n (s.setPort p x) = (raise n s).setPort p x := by
  cases p <;> rfl

theorem raise_port (n : Notice) (p : Port) (s : State) : (raise n s).port p = s.port p := by cases p <;> rfl

/-- Settles O34. -/
theorem sample_frame_taken : Obligations.Sample_frame_taken := by
  intro s p x claim due idle re im heard discarded
  have taken : exec (.sampleFrame p (encodeSourceFrame (.sample x claim))) s = .next (selectorSample p x claim heard) := by
    refine (congrArg (fun u => Host.Outcome.next (sourceFrame p _ u)) (settle_of_due_nil s due)).trans ?_
    rw [sourceFrame, decode_encode_sample re im claim]
    dsimp only
    rw [abandonRequest_of_idle s idle]
    rfl
  have selector : heard.selector = s.selector := setPort_selector s p _
  have buffer : heard.buffer = s.buffer := setPort_buffer s p _
  have port : heard.port p = { s.port p with age := 0, present := true } := setPort_port s p _
  have owned : ownerSample x heard =
      { heard with selector := { s.selector with condition := .live }, buffer := s.buffer.push x } := by
    rw [← selector, ← buffer]
    rfl
  have takes : ownerSample x (changeover p heard) = raise (.changeover p)
      { heard with
        selector := { s.selector with owner := p, condition := .live }
        buffer := s.buffer.flush.push x } := by
    rw [← selector, ← buffer]
    rfl
  rw [taken]
  refine congrArg Host.Outcome.next ?_
  rw [selectorSample, selector, port]
  by_cases owner : p = s.selector.owner
  · rw [if_pos owner, if_pos owner, owned]
  rw [if_neg owner, if_neg owner]
  by_cases lost : s.selector.condition = .lost ∧ s.selector.mode = .auto ∧ (s.port p).barred = false
  · rw [if_pos lost, if_pos lost, takes]
  rw [if_neg lost, if_neg lost]
  by_cases claims : claim = true ∧ (s.port p).barred = false
  · rw [if_pos claims, if_pos claims, discardSample, raise_port, setPort_port, ← raise_setPort, setPort_setPort, setPort_setPort]
  · rw [if_neg claims, if_neg claims, discardSample, port, setPort_setPort]

/-! ### The other source frames (R161 to R163) -/

theorem requestOf_frames (p : Port) (code : Byte) (pl : List Byte) : (requestOf p code pl).map Prod.fst =
    if code.toNat = 0 ∨ 28 < code.toNat then none else some (requestFrameCount code) := by
  unfold requestOf requestFrameCount
  generalize code.toNat = n
  by_cases known : n = 0 ∨ 28 < n
  · rw [if_pos known]
    split
    case h_29 => rfl
    all_goals omega
  rw [if_neg known]
  by_cases source : n = 28
  · subst source
    change Option.map Prod.fst (match (byteAt pl 0).toNat with
      | 1 => some (1, reqSetPreferred (byteAt pl 1))
      | 2 => some (1, reqSetMode (byteAt pl 1))
      | 3 => some (1, reqClearBar (byteAt pl 1))
      | 4 => some (1, reqForceOwner (byteAt pl 1))
      | _ => some (1, refused .badValue)) = some 1
    split <;> rfl
  · have low : 1 ≤ n := by omega
    have high : n ≤ 27 := by omega
    interval_cases n <;> rfl

theorem completeRequest_of_other {p : Port} {code tag : Byte} {n : Nat} {pl : List Byte}
    (h : (requestOf p code pl).map Prod.fst ≠ some n) (s : State) :
    completeRequest p code tag n pl s = badRequest p code tag s := by
  unfold completeRequest
  split
  · rfl
  · next frames op request =>
    rw [request] at h
    exact if_neg fun same => h (congrArg some same.symm)

theorem reqStationSetup_of_unknown {n : Nat} (h : n = 0 ∨ 14 < n) (v : Nat) : reqStationSetup n v = refused .badValue := by
  unfold reqStationSetup
  split
  case h_15 => rfl
  all_goals omega

/-- A code with a setting or a sub-function that is none. -/
theorem requestOf_of_unknown {p : Port} {code : Byte} {pl : List Byte}
    (h : (code = 1 ∧ (byteAt pl 0 = 0 ∨ 14 < (byteAt pl 0).toNat)) ∨ (code = 28 ∧ (byteAt pl 0 = 0 ∨ 4 < (byteAt pl 0).toNat))) :
    requestOf p code pl = some (1, refused .badValue) := by
  have zero : byteAt pl 0 = 0 → (byteAt pl 0).toNat = 0 := fun z => congrArg BitVec.toNat z
  rcases h with ⟨rfl, bad⟩ | ⟨rfl, bad⟩
  · exact congrArg (fun op => some (1, op)) (reqStationSetup_of_unknown (bad.imp_left zero) _)
  · change (match (byteAt pl 0).toNat with
      | 1 => some (1, reqSetPreferred (byteAt pl 1))
      | 2 => some (1, reqSetMode (byteAt pl 1))
      | 3 => some (1, reqClearBar (byteAt pl 1))
      | 4 => some (1, reqForceOwner (byteAt pl 1))
      | _ => some (1, refused .badValue)) = _
    have bad := bad.imp_left zero
    split
    case h_5 => rfl
    all_goals omega

section
variable (due : s.due = []) (p : Port)
include due

theorem exec_sampleFrame (bytes : List Byte) : exec (.sampleFrame p bytes) s = .next (sourceFrame p bytes s) :=
  congrArg (fun u => Host.Outcome.next (sourceFrame p bytes u)) (settle_of_due_nil s due)

theorem exec_requestFrame (bytes : List Byte) : exec (.requestFrame p bytes) s = .next (sourceFrame p bytes s) :=
  congrArg (fun u => Host.Outcome.next (sourceFrame p bytes u)) (settle_of_due_nil s due)

theorem exec_idleFrame : exec (.idleFrame p (encodeSourceFrame .idle)) s = .next (abandonRequest p s) := by
  refine (congrArg (fun u => Host.Outcome.next (sourceFrame p _ u)) (settle_of_due_nil s due)).trans ?_
  rw [sourceFrame, decode_encode_idle]

theorem exec_requestFirst {n : Nat} (small : n < 8) (code tag : Byte) {pl : List Byte} (length : pl.length = 3) :
    exec (.requestFrame p (encodeSourceFrame (.requestFirst n code tag pl))) s = .next (firstFrame p n code tag pl s) := by
  rw [exec_requestFrame due, sourceFrame_requestFirst small p code tag length]

theorem exec_requestNext {pl : List Byte} (length : pl.length = 6) :
    exec (.requestFrame p (encodeSourceFrame (.requestNext pl))) s = .next (nextFrame p pl s) := by
  rw [exec_requestFrame due, sourceFrame_requestNext p length]

end

theorem firstFrame_of_idle {p : Port} (idle : (s.port p).assembly = .idle) (n : Nat) (code tag : Byte) (pl : List Byte) :
    firstFrame p n code tag pl s =
      if n = 0 ∨ n = 7 then badRequest p code tag s
      else if n = 1 then completeRequest p code tag 1 pl s
      else setAssembly p (.assembling code tag n 1 pl) s := by
  rw [firstFrame, abandonRequest_of_idle s idle]

theorem nextFrame_of_assembling {p : Port} {code tag : Byte} {n m : Nat} {got : List Byte}
    (h : (s.port p).assembly = .assembling code tag n m got) (pl : List Byte) : nextFrame p pl s =
      if m + 1 = n then completeRequest p code tag n (got ++ pl) (setAssembly p .idle s)
      else setAssembly p (.assembling code tag n (m + 1) (got ++ pl)) s := by
  rw [nextFrame, h]

/-- Settles O35. -/
theorem source_frames_taken : Obligations.Source_frames_taken := by
  intro s p due frames turned
  have frames_eq (code : Byte) (pl : List Byte) : (requestOf p code pl).map Prod.fst = frames code := by
    rw [requestOf_frames]
    revert code
    decide
  have turned_eq (code tag : Byte) (u : State) : badRequest p code tag u = u.setPort p (turned code tag (u.port p)) := by
    cases slot : (u.port p).slot with
    | none => rw [badRequest_of_empty code tag slot]; simp only [turned, slot]; rfl
    | some r => rw [badRequest_of_full code tag slot]; simp only [turned, slot]; rw [overrun, ← slot]
  have turned_idle (code tag : Byte) :
      badRequest p code tag (setAssembly p .idle s) = s.setPort p (turned code tag { s.port p with assembly := .idle }) := by
    rw [turned_eq, setAssembly, setPort_port, setPort_setPort]
  refine ⟨fun idle => ?idle, fun code tag n m pl assembling => ?abandon, fun bytes bad => ?bad,
    fun n code tag pl low high length idle => ?first, fun n code tag pl count length idle => ?turned,
    fun code tag pl length idle slot unknown => ?unknown, fun pl length idle => ?discard,
    fun code tag n m got pl length assembling => ⟨fun more => ?more, fun last other => ?last⟩⟩
  case idle => rw [exec_idleFrame due, abandonRequest_of_idle s idle]
  case abandon =>
    intro left
    have abandons : abandonRequest p s = left := by rw [abandonRequest_of_assembling assembling, turned_idle]
    have settled : left.due = [] := (setPort_due s p _).trans due
    have empty : abandonRequest p left = left :=
      abandonRequest_of_idle left (by rw [← abandons]; exact abandonRequest_idle p s)
    refine ⟨by rw [exec_idleFrame due, abandons], fun bytes x claim sample => ?_, fun bytes n' code' tag' pl' first => ?_⟩
    · rw [exec_sampleFrame due, exec_sampleFrame settled, sourceFrame, sourceFrame, sample]
      dsimp only
      rw [abandons, empty]
    · rw [exec_requestFrame due, exec_requestFrame settled, sourceFrame, sourceFrame, first]
      dsimp only
      rw [firstFrame, firstFrame, abandons, empty]
  case bad =>
    refine (congrArg (fun u => Host.Outcome.next (sourceFrame p bytes u)) (settle_of_due_nil s due)).trans ?_
    rw [sourceFrame, bad]
    rfl
  case first =>
    rw [exec_requestFirst due p (by omega) code tag length, firstFrame_of_idle idle, if_neg (by omega), if_neg (by omega)]
    rfl
  case turned =>
    rw [exec_requestFirst due p (by omega) code tag length, firstFrame_of_idle idle, ← turned_eq]
    rcases count with none | seven | ⟨one, other⟩
    · rw [if_pos (.inl none)]
    · rw [if_pos (.inr seven)]
    · rw [if_neg (by omega), if_pos one, completeRequest_of_other (by rw [frames_eq]; exact other)]
  case unknown =>
    have request := requestOf_of_unknown (p := p) unknown
    rw [exec_requestFirst due p (by decide) code tag length, firstFrame_of_idle idle, if_neg (by decide), if_pos rfl,
      completeRequest_of_requestOf request, takeRequest, slot]
    rfl
  case discard => rw [exec_requestNext due p length, nextFrame, idle]
  case more =>
    rw [exec_requestNext due p length, nextFrame_of_assembling assembling, if_neg more]
    rfl
  case last =>
    rw [exec_requestNext due p length, nextFrame_of_assembling assembling, if_pos last,
      completeRequest_of_other (by rw [frames_eq]; exact other), turned_idle]

/-! ### The beginning of a window (R84, R85, R88, R89) -/

theorem tested_iff {r : PatternRecord} : r.tested = true ↔ ∃ e ∈ r.entries, e.tolerance ≠ 0 := by
  simp [PatternRecord.tested]

theorem tested_eq_false_iff {r : PatternRecord} : r.tested = false ↔ ∀ e ∈ r.entries, e.tolerance = 0 := by
  simp [PatternRecord.tested]

theorem freshWindow_of_tested {p : Slot} {h : Header} {r : Tower} (header : (s.record p).header = some h)
    (reference : h.reference = some r) (tested : (s.record p).tested = true) : freshWindow s p = some
      { pattern := p, reference := r, tests := testsOf (s.record p).entries r, reports := s.settings.monWindow,
        limit := s.settings.windowLimit, timer := 0, acc := Vector.replicate 12 { count := 0, sum := Cpx.zero } } := by
  simp only [freshWindow, header, reference, if_pos tested]

theorem freshWindow_of_untested {p : Slot} (tested : (s.record p).tested = false) : freshWindow s p = none := by
  unfold freshWindow
  split
  · rfl
  · split
    · rfl
    · exact if_neg (by simp [tested])

theorem testsOf_eq (es : List Entry) (r : Tower) : testsOf es r =
    (es.filter fun e => decide (e.tolerance ≠ 0 ∧ e.tower ≠ r)).map fun e =>
      { tower := e.tower, expected := e.expected, tolerance := e.tolerance } :=
  congrArg (List.map _) (List.filter_congr fun e _ => by rw [Bool.eq_iff_iff]; simp)

/-- The tested set of a pattern. -/
theorem any_testsOf_iff {es : List Entry} {r k : Tower} : (k = r ∨ ((testsOf es r).any fun e => e.tower == k) = true) ↔
    k = r ∨ ∃ e ∈ es, e.tower = k ∧ e.tolerance ≠ 0 := by
  rw [testsOf_eq]
  simp only [List.any_map, List.any_filter, List.any_eq_true, Function.comp_apply, Bool.and_eq_true, decide_eq_true_eq,
    beq_iff_eq]
  constructor
  · rintro (same | ⟨e, he, ⟨tolerance, _⟩, tower⟩)
    · exact .inl same
    · exact .inr ⟨e, he, tower, tolerance⟩
  · rintro (same | ⟨e, he, tower, tolerance⟩)
    · exact .inl same
    · by_cases same : k = r
      · exact .inl same
      · exact .inr ⟨e, he, ⟨tolerance, tower ▸ same⟩, tower⟩

theorem restartWindow_of_duty {p : Slot} (duty : s.monitor.duty.pattern = some p) :
    restartWindow s = s.setWindow (if s.mute then none else freshWindow s p) := by
  rw [restartWindow, duty]

theorem setSteadyDuty_of_tested {p : Slot} (tested : (s.record p).tested = true) : setSteadyDuty p s =
    { s with monitor :=
      { duty := .steady p, window := if s.mute then none else freshWindow s p, records := s.monitor.records } } :=
  if_pos tested

theorem setSteadyDuty_of_untested {p : Slot} (tested : (s.record p).tested = false) : setSteadyDuty p s =
    { s with monitor :=
      { duty := .steady p, window := none, records := tab fun k => (s.monitor.records.get k).untest } } := by
  have fresh : (if s.mute then none else freshWindow s p) = none := by
    rw [freshWindow_of_untested tested]
    exact ite_self none
  have untested : ¬(s.record p).tested = true := by simp [tested]
  refine (if_neg untested).trans ?_
  exact congrArg (fun w : Option Window => ({ s with monitor :=
    { duty := .steady p, window := w, records := tab fun k => (s.monitor.records.get k).untest } } : State)) fresh

/-- Settles O29. -/
theorem window_begins : Obligations.Window_begins := by
  refine ⟨fun s p h r header reference tested => ?fresh,
    fun s p untested => freshWindow_of_untested (tested_eq_false_iff.mpr untested), fun s => ?restart, fun s p => ?duties⟩
  case fresh =>
    refine ⟨_, freshWindow_of_tested header reference (tested_iff.mpr tested), rfl, rfl, rfl, rfl, rfl,
      fun k => get_replicate _ k, fun k => ?_, ?_⟩
    · rw [← any_testsOf_iff, Window.tested, Bool.or_eq_true, beq_iff_eq, eq_comm (a := r)]
    · exact testsOf_eq _ _
  case restart =>
    unfold restartWindow
    cases s.monitor.duty <;> rfl
  case duties =>
    exact ⟨fun tested => setSteadyDuty_of_tested (tested_iff.mpr tested),
      fun untested => setSteadyDuty_of_untested (tested_eq_false_iff.mpr untested), rfl⟩

end Sys2Proof.Machine
end

section
/-! PROOFS. The steps of a ramp: the weights written (O17), the end of a drop to zero (O19), the end of CROSS (O20). -/

namespace Sys2Proof.Machine

variable {s : State}

/-! ### The moves of SWITCH (R67) -/

/-- The network record that a move request leaves at a tower that refuses none. -/
def NetRecord.requested (n : NetRecord) (q : Pos) : NetRecord :=
  match n.state with
  | .settled p =>
    if p = q then { n with commanded := none }
    else { state := .moving q p, commanded := some q, travelTimer := 0, lastTravel := n.lastTravel }
  | _ => { n with commanded := some q }

theorem NetRecord.requested_requested (n : NetRecord) (q : Pos) : (n.requested q).requested q = n.requested q := by
  obtain ⟨state, commanded, travel, last⟩ := n
  cases state with
  | settled p =>
    by_cases there : p = q
    · simp [NetRecord.requested, there]
    · simp [NetRecord.requested, there]
  | _ => rfl

/-- Towers that answer every move request: in service, within the array, at weight (0, 0), not JAMMED. -/
structure State.Movable (s : State) (t : Tower) : Prop where
  inside : t.val < s.settings.arraySize
  service : s.outOfService t = false
  zero : s.live t = Cpx.zero
  standing : (s.net t).state ≠ .jammed

theorem NetRecord.requested_standing {n : NetRecord} (h : n.state ≠ .jammed) (q : Pos) : (n.requested q).state ≠ .jammed := by
  unfold NetRecord.requested
  split
  · split
    · exact h
    · exact nofun
  · exact h

theorem State.Movable.setNet {t u : Tower} (h : s.Movable u) {n : NetRecord} (standing : t = u → n.state ≠ .jammed) :
    (s.setNet t n).Movable u := by
  refine ⟨h.inside, h.service, h.zero, ?_⟩
  rw [setNet_net]
  split
  · next same => exact standing same.symm
  · exact h.standing

theorem NetRecord.requested_of_settled {n : NetRecord} {p : Pos} (h : n.state = .settled p) (q : Pos) : n.requested q =
    if p = q then { n with commanded := none }
    else { state := .moving q p, commanded := some q, travelTimer := 0, lastTravel := n.lastTravel } := by
  simp only [NetRecord.requested, h]

theorem NetRecord.requested_of_not_settled {n : NetRecord} (h : ∀ p, n.state ≠ .settled p) (q : Pos) :
    n.requested q = { n with commanded := some q } := by
  unfold NetRecord.requested
  split
  · next p settled => exact absurd settled (h p)
  · rfl

/-- R38's rows for such a tower. -/
theorem requestMove_of_movable {t : Tower} (h : s.Movable t) (q : Pos) :
    ∃ answer, requestMove t q s = (s.setNet t ((s.net t).requested q), answer) ∧ answer ≠ .refused := by
  have rules (p d : Pos) := (move_request_answers t q p d s).2 h.service h.inside
  cases state : (s.net t).state with
  | settled p =>
    obtain ⟨at_position, started, _⟩ := rules p p
    rw [NetRecord.requested_of_settled state]
    by_cases there : p = q
    · exact ⟨.atPosition, (at_position (there ▸ state)).trans (by rw [if_pos there]), nofun⟩
    · exact ⟨.started, (started state there h.zero).trans (by rw [if_neg there]), nofun⟩
  | moving d p =>
    obtain ⟨_, _, _, held⟩ := rules p d
    rw [NetRecord.requested_of_not_settled (by rw [state]; exact nofun)]
    exact ⟨_, held (.inl state), nofun⟩
  | unknown =>
    obtain ⟨_, _, _, held⟩ := rules q q
    rw [NetRecord.requested_of_not_settled (by rw [state]; exact nofun)]
    exact ⟨_, held (.inr (.inl state)), nofun⟩
  | drifting =>
    obtain ⟨_, _, _, held⟩ := rules q q
    rw [NetRecord.requested_of_not_settled (by rw [state]; exact nofun)]
    exact ⟨_, held (.inr (.inr state)), nofun⟩
  | jammed => exact absurd state h.standing

theorem sendMoves_cons_of_movable {t : Tower} (h : s.Movable t) (f : Reason → Option Tower → State → State) (p : Slot)
    (ts : List Tower) :
    sendMoves f p (t :: ts) s = sendMoves f p ts (s.setNet t ((s.net t).requested ((s.record p).wanted t))) := by
  obtain ⟨answer, taken, kept⟩ := requestMove_of_movable h ((s.record p).wanted t)
  rw [sendMoves, taken]
  cases answer with
  | refused => exact absurd rfl kept
  | _ => rfl

theorem sendMoves_of_movable (f : Reason → Option Tower → State → State) (p : Slot) (ts : List Tower) :
    ∀ s : State, (∀ t ∈ ts, s.Movable t) → sendMoves f p ts s =
      ({ s with nets := tab fun k => if k ∈ ts then (s.net k).requested ((s.record p).wanted k) else s.net k }, true) := by
  induction ts with
  | nil =>
    intro s _
    have nets : (tab fun k => if k ∈ ([] : List Tower) then (s.net k).requested ((s.record p).wanted k) else s.net k) = s.nets := by
      refine vec_ext fun k => ?_
      rw [get_tab, if_neg List.not_mem_nil]
      rfl
    rw [sendMoves, nets]
  | cons t ts ih =>
    intro s ready
    have movable := ready t List.mem_cons_self
    rw [sendMoves_cons_of_movable movable, ih]
    · refine congrArg (fun v => (({ s with nets := v } : State), true)) (vec_ext fun k => ?_)
      rw [get_tab, get_tab, setNet_net]
      by_cases here : k = t
      · subst here
        rw [if_pos rfl, if_pos List.mem_cons_self]
        split
        · exact NetRecord.requested_requested _ _
        · rfl
      · rw [if_neg here]
        simp only [List.mem_cons, here, false_or]
        rfl
    · exact fun u hu => (ready u (List.mem_cons_of_mem t hu)).setNet fun _ => NetRecord.requested_standing movable.standing _

theorem beginSwitchWith_of_movable (f : Reason → Option Tower → State → State) (c : Context) (p : Slot)
    (ready : ∀ t ∈ c.switchSet, s.Movable t) : beginSwitchWith f c p s = endSwitchIfDone
      { s with
        shift := { s.shift with
          array := .shifting { c with phase := .switch, stepCount := 0, stepTotal := none, switchWait := 0 } }
        nets := tab fun k => if k ∈ c.switchSet then (s.net k).requested ((s.record p).wanted k) else s.net k } := by
  rw [beginSwitchWith]
  dsimp only
  rw [sendMoves_of_movable]
  · rfl
  · exact fun t ht => ⟨(ready t ht).inside, (ready t ht).service, (ready t ht).zero, (ready t ht).standing⟩

/-! ### One step of a ramp (R66, R70) -/

/-- The state in which the step timer's expiry takes a step. -/
def State.reloaded (s : State) : State :=
  (s.setDue (s.due.erase .stepTimer)).setTimer { counter := s.settings.stepPeriod, running := true }

theorem exec_stepTimerExpiry (due : TickEvent.stepTimer ∈ s.due) (timer : s.shift.timer = { counter := 0, running := true }) :
    exec .stepTimerExpiry s = .next (takeStep s.reloaded) := by
  refine congrArg Host.Outcome.next ((takeDue_of_due s due).trans ?_)
  have expired : (s.setDue (s.due.erase .stepTimer)).shift.timer.running ∧ (s.setDue (s.due.erase .stepTimer)).shift.timer.counter = 0 := by
    simp [timer]
  refine (if_pos expired).trans ?_
  simp only [State.reloaded, setDue_shift, timer]
  rfl

/-- The weights of a step written, with the step counted. -/
def State.stepped (s : State) (c : Context) : State :=
  writeAllWeights (stepWeights c (c.stepCount + 1)) (s.setArray (.shifting { c with stepCount := c.stepCount + 1 }))

theorem takeStep_of_ramp {c : Context} (array : s.shift.array = .shifting c) (ramp : c.phase = .drop ∨ c.phase = .cross) {n : Nat}
    (total : c.stepTotal = some n) : takeStep s =
      if n ≤ c.stepCount + 1 then rampEnded { c with stepCount := c.stepCount + 1 } (s.stepped c) else s.stepped c := by
  rw [takeStep, array]
  have limit : c.stepTotal.getD 1 = n := by rw [total]; rfl
  dsimp only
  rw [if_pos ramp, limit]
  rfl

theorem rampEnded_of_target {c : Context} {p : Slot} (target : c.target = some p) (s : State) : rampEnded c s =
    if c.phase = .cross then beginVerify c p s else beginSwitchWith failTransition c p (stopTimer s) := by
  rw [rampEnded, target]

theorem rampEnded_of_none {c : Context} (target : c.target = none) (s : State) : rampEnded c s =
    if c.cause = .safe then examineQueue (finishSafeDrop c s) else finishAbort c s := by
  rw [rampEnded, target]

/-- A step timer reloaded with the period in force stops with that period. -/
theorem stopTimer_of_reloaded (h : s.shift.timer.counter = s.settings.stepPeriod) :
    stopTimer s = s.setTimer { counter := s.settings.stepPeriod, running := false } := by
  rw [stopTimer, h, ite_self]

theorem dropWeight_last (a : Cpx) (n : Nat) : dropWeight a n n = Cpx.zero := by
  rw [dropWeight, dropValue_last, dropValue_last]
  rfl

theorem crossWeight_last (a b : Cpx) {n : Nat} (h : 0 < n) : crossWeight a b n n = b := by
  rw [crossWeight, crossValue_last _ _ h, crossValue_last _ _ h]

section
variable {c : Context} {n : Nat} (total : c.stepTotal = some n)
include total

theorem stepWeights_of_cross (phase : c.phase = .cross) (step : Nat) (k : Tower) :
    stepWeights c step k = crossWeight (c.startA.get k) (c.endB.get k) n step := by
  rw [stepWeights, total, phase]
  rfl

theorem stepWeights_of_drop (phase : c.phase = .drop) (step : Nat) (k : Tower) :
    stepWeights c step k =
      if c.target = none ∨ k ∈ c.switchSet then dropWeight (c.startA.get k) n step else c.startA.get k := by
  rw [stepWeights, total, phase]
  simp only [Option.isNone_iff_eq_none]
  rfl

/-- The last step's weights of a CROSS. -/
theorem stepped_of_cross (phase : c.phase = .cross) (last : c.stepCount + 1 = n) : s.stepped c =
    (s.setArray (.shifting { c with stepCount := c.stepCount + 1 })).setLive
      (tab fun k => if s.zeroHold k then ⟨0, 0⟩ else c.endB.get k) := by
  have weights (k : Tower) : stepWeights c (c.stepCount + 1) k = c.endB.get k := by
    rw [stepWeights_of_cross total phase, last, crossWeight_last _ _ (by omega)]
  rw [State.stepped, show stepWeights c (c.stepCount + 1) = c.endB.get from funext weights]
  rfl

/-- The last step's weights of a DROP. -/
theorem stepped_of_drop (phase : c.phase = .drop) (last : c.stepCount + 1 = n) : s.stepped c =
    (s.setArray (.shifting { c with stepCount := c.stepCount + 1 })).setLive
      (tab fun k => if s.zeroHold k = true ∨ c.target = none ∨ k ∈ c.switchSet then ⟨0, 0⟩ else c.startA.get k) := by
  refine congrArg (State.setLive _) (congrArg tab (funext fun k => ?_))
  rw [stepWeights_of_drop total phase, last, dropWeight_last]
  by_cases hold : s.zeroHold k = true
  · exact (if_pos hold).trans (if_pos (.inl hold)).symm
  refine (if_neg hold).trans ?_
  by_cases drops : c.target = none ∨ k ∈ c.switchSet
  · exact (if_pos drops).trans (if_pos (.inr drops)).symm
  · exact (if_neg drops).trans (if_neg (not_or.mpr ⟨hold, drops⟩)).symm

end

/-- Settles O17. -/
theorem ramp_step_writes_weights : Obligations.Ramp_step_writes_weights := by
  refine ⟨fun s c n due timer array ramp total more => ?step, fun s c n p due timer array phase target total last ready => ?last⟩
  case step =>
    intro a b left done
    rw [exec_stepTimerExpiry due timer, takeStep_of_ramp (s := s.reloaded) array ramp total, if_neg (by omega)]
    refine congrArg (fun v => Host.Outcome.next ((s.reloaded.setArray (.shifting { c with stepCount := c.stepCount + 1 })).setLive
      (tab v))) (funext fun k => ?_)
    by_cases hold : s.zeroHold k = true
    · exact (if_pos hold).trans (if_pos hold).symm
    rw [if_neg hold]
    refine (if_neg hold).trans ?_
    rcases ramp with drop | cross
    · exact (stepWeights_of_drop total drop _ k).trans (if_neg (by rw [drop]; decide)).symm
    · exact (stepWeights_of_cross total cross _ k).trans (if_pos cross).symm
  case last =>
    intro wanted
    have weights : (tab fun k => if s.reloaded.zeroHold k = true ∨ c.target = none ∨ k ∈ c.switchSet then (⟨0, 0⟩ : Cpx)
        else c.startA.get k) = tab fun k => if s.zeroHold k = true ∨ k ∈ c.switchSet then ⟨0, 0⟩ else c.startA.get k := by
      simp only [target, reduceCtorEq, false_or]
      rfl
    rw [exec_stepTimerExpiry due timer, takeStep_of_ramp (s := s.reloaded) array (.inl phase) total, if_pos last.ge,
      stepped_of_drop total phase last, weights, rampEnded_of_target (c := { c with stepCount := c.stepCount + 1 }) target, if_neg (by rw [phase]; decide),
      stopTimer_of_reloaded rfl, beginSwitchWith_of_movable]
    · rfl
    · intro t ht
      obtain ⟨inside, service, standing⟩ := ready t ht
      exact ⟨inside, service, (get_tab _ t).trans (if_pos (.inr ht)), standing⟩

/-- Settles O19. -/
theorem drop_to_zero_ends : Obligations.Drop_to_zero_ends := by
  intro s c n due timer array phase target total last zeroed
  have weights : (tab fun k => if s.reloaded.zeroHold k = true ∨ c.target = none ∨ k ∈ c.switchSet then (⟨0, 0⟩ : Cpx)
      else c.startA.get k) = tab fun _ => ⟨0, 0⟩ := congrArg tab (funext fun k => if_pos (.inr (.inl target)))
  rw [exec_stepTimerExpiry due timer, takeStep_of_ramp (s := s.reloaded) array (.inl phase) total, if_pos last.ge,
    stepped_of_drop total phase last, weights, rampEnded_of_none (c := { c with stepCount := c.stepCount + 1 }) target]
  refine ⟨fun p r safe failed => ?safe, fun abort => ?abort⟩
  case safe =>
    refine congrArg Host.Outcome.next ((if_pos safe).trans (congrArg examineQueue ?_))
    rw [finishSafeDrop, stopTimer_of_reloaded rfl, failed]
    rfl
  case abort =>
    refine congrArg Host.Outcome.next ((if_neg (by rw [abort]; decide)).trans (congrArg examineQueue ?_))
    rw [stopTimer_of_reloaded rfl]
    rfl

/-! ### The end of CROSS (R70, R72) -/

theorem beginVerify_of_tested {c : Context} {p : Slot} (tested : (s.record p).tested = true) : beginVerify c p s =
    setVerifyDuty p (stopTimer
      (s.setArray (.shifting { c with phase := .verify, stepCount := 0, stepTotal := none, verifyUsed := 0 }))) :=
  if_pos tested

theorem beginVerify_of_untested {c : Context} {p : Slot} (untested : (s.record p).tested = false) : beginVerify c p s =
    succeed { c with phase := .verify, stepCount := 0, stepTotal := none, verifyUsed := 0 } p (stopTimer
      (s.setArray (.shifting { c with phase := .verify, stepCount := 0, stepTotal := none, verifyUsed := 0 }))) :=
  if_neg (Bool.eq_false_iff.mp untested)

theorem succeed_of_untested {c : Context} {p : Slot} (untested : (s.record p).tested = false) : succeed c p s =
    examineQueue (raise (.shiftDone (some p) c.cause c.verifyUsed)
      { s with
        shift := { s.shift with
          array := .steady p, timer := (stopTimer s).shift.timer, fallbackFlag := c.cause == .fallback }
        nets := tab fun k => { s.net k with commanded := none }
        monitor :=
          { duty := .steady p
            window := none
            records := tab fun k =>
              { s.monitor.records.get k with deviation := 0, outcome := .untested, failCount := 0, out := false } } }) := by
  rw [succeed, setSteadyDuty_of_untested]
  · rfl
  · exact untested

/-- Settles O20. -/
theorem cross_ends : Obligations.Cross_ends := by
  intro s c n p due timer array phase target total last crossed
  rw [exec_stepTimerExpiry due timer, takeStep_of_ramp (s := s.reloaded) array (.inr phase) total, if_pos last.ge,
    stepped_of_cross total phase last, rampEnded_of_target (c := { c with stepCount := c.stepCount + 1 }) target, if_pos phase]
  refine ⟨fun untested => ?untested, fun tested => ?tested⟩
  case untested =>
    rw [beginVerify_of_untested, stopTimer_of_reloaded rfl, succeed_of_untested, stopTimer_of_reloaded rfl]
    · rfl
    · exact untested
    · exact untested
  case tested =>
    rw [beginVerify_of_tested, stopTimer_of_reloaded rfl]
    · rfl
    · exact tested

end Sys2Proof.Machine
end

section
/-! PROOFS. The end of SWITCH and the switch wait (O21). -/

namespace Sys2Proof.Machine

variable {s : State}

/-! ### The end of SWITCH and of a transition in flight, as equations of state -/

theorem endSwitchIfDone_of_switch {c : Context} {p : Slot} (array : s.shift.array = .shifting c) (phase : c.phase = .switch)
    (target : c.target = some p) : endSwitchIfDone s =
      if c.switchSet.all (fun k => s.satisfied p k) then beginCross { c with stepTotal := none } p s else s := by
  rw [endSwitchIfDone, array]
  dsimp only
  rw [phase, target]

theorem endSwitchIfDone_of_not_switch (h : ∀ c p, s.shift.array = .shifting c → c.phase = .switch → c.target ≠ some p) :
    endSwitchIfDone s = s := by
  unfold endSwitchIfDone
  split
  · next c array =>
    split
    · next p phase target => exact absurd target (h c p array phase)
    · rfl
  · rfl

theorem endTransition_eq : endTransition s =
    { s with
      nets := tab fun k => { s.net k with commanded := none }
      monitor := { s.monitor with duty := .none, window := none }
      shift := { s.shift with
        timer :=
          { counter := if s.shift.timer.counter = 0 then s.settings.stepPeriod else s.shift.timer.counter
            running := false } } } := rfl

section
variable {c : Context} {p : Slot} (array : s.shift.array = .shifting c) (target : c.target = some p)
include array target

/-- R74, R78: where a transition in flight fails. -/
theorem failTransitionWith_eq (start : Start → State → State) (detail : Option (Tower × Verdict × Nat)) (r : Reason)
    (k : Option Tower) : failTransitionWith start detail r k s = handleFailureWith start
      { kind := .transition, pattern := p, reason := r, tower := k, cause := some c.cause, source := c.source, prior := c.prior }
      (raise (.shiftFailed (some p) r detail) (endTransition s)) := by
  rw [failTransitionWith, array]
  dsimp only
  rw [target]

theorem failTransition_eq (r : Reason) (k : Option Tower) : failTransition r k s = handleFailure
    { kind := .transition, pattern := p, reason := r, tower := k, cause := some c.cause, source := c.source, prior := c.prior }
    (raise (.shiftFailed (some p) r none) (endTransition s)) :=
  failTransitionWith_eq array target _ _ r k

end

/-! ### The switch wait (R68) -/

/-- The towers of `gone` have left the switch set of the transition, each with its held target. -/
def State.without (s : State) (c : Context) (gone : Tower → Bool) : State :=
  { s with
    nets := tab fun k => if k ∈ c.switchSet ∧ gone k = true then { s.net k with commanded := none } else s.net k
    shift := { s.shift with array := .shifting { c with switchSet := c.switchSet.filter fun k => !gone k } } }

section
variable (c : Context) (gone : Tower → Bool)

theorem State.without_net (k : Tower) : (s.without c gone).net k =
    if k ∈ c.switchSet ∧ gone k = true then { s.net k with commanded := none } else s.net k := get_tab _ k

theorem State.without_state (k : Tower) : ((s.without c gone).net k).state = (s.net k).state := by
  rw [State.without_net]
  split <;> rfl

theorem State.without_satisfied (p : Slot) (k : Tower) : (s.without c gone).satisfied p k = s.satisfied p k :=
  congrArg (· == NetState.settled ((s.record p).wanted k)) (State.without_state c gone k)

theorem leaveSwitchSet_without (t : Tower) :
    leaveSwitchSet t (s.without c gone) = s.without c fun k => gone k || k == t := by
  have sets : ((c.switchSet.filter fun k => !gone k).filter fun k => k != t) =
      c.switchSet.filter fun k => !(gone k || k == t) := by
    rw [List.filter_filter]
    refine List.filter_congr fun k _ => ?_
    rw [Bool.not_or, Bool.and_comm]
    rfl
  have rest (u : State) (nets : ∀ k, u.net k = (s.without c fun k => gone k || k == t).net k)
      (same : u = { s.without c gone with nets := u.nets }) : u.setArray (.shifting { c with
        switchSet := c.switchSet.filter fun k => !(gone k || k == t) }) = s.without c fun k => gone k || k == t := by
    rw [same]
    exact congrArg (fun v => { (s.without c fun k => gone k || k == t) with nets := v }) (vec_ext nets)
  rw [leaveSwitchSet_eq rfl t]
  dsimp only
  rw [sets]
  by_cases staying : t ∈ c.switchSet.filter fun k => !gone k
  · rw [if_pos staying]
    refine rest _ (fun k => ?_) rfl
    obtain ⟨member, _⟩ := List.mem_filter.mp staying
    refine (setNet_net _ t k _).trans ?_
    by_cases here : k = t
    · subst here
      simp only [State.without_net, member, if_true, beq_self_eq_true, Bool.or_true, and_self]
      split <;> rfl
    · simp only [State.without_net, here, if_false, beq_eq_false_iff_ne.mpr here, Bool.or_false]
  · rw [if_neg staying]
    refine rest _ (fun k => ?_) rfl
    by_cases here : k = t
    · subst here
      simp only [List.mem_filter, not_and, Bool.not_eq_true', Bool.not_eq_false] at staying
      by_cases member : k ∈ c.switchSet
      · simp only [State.without_net, staying member, Bool.true_or]
      · simp only [State.without_net, member, false_and]
    · simp only [State.without_net, beq_eq_false_iff_ne.mpr here, Bool.or_false]

/-- Nobody has left: the transition itself. -/
theorem State.without_nobody (array : s.shift.array = .shifting c) : s.without c (fun _ => false) = s := by
  have nets : (s.without c fun _ => false).nets = s.nets := vec_ext fun k =>
    (State.without_net c _ k).trans (if_neg fun h => Bool.noConfusion h.2)
  have set : (c.switchSet.filter fun _ => !false) = c.switchSet := List.filter_eq_self.mpr fun _ _ => rfl
  rw [State.without] at nets ⊢
  dsimp only at nets
  rw [nets, set, ← array]

theorem State.without_congr {f g : Tower → Bool} (h : ∀ k ∈ c.switchSet, f k = g k) : s.without c f = s.without c g := by
  have sets : (c.switchSet.filter fun k => !f k) = c.switchSet.filter fun k => !g k :=
    List.filter_congr fun k hk => congrArg not (h k hk)
  have nets : (s.without c f).nets = (s.without c g).nets := vec_ext fun k => by
    refine (State.without_net c f k).trans (.trans ?_ (State.without_net c g k).symm)
    exact if_congr (and_congr_right fun member => by rw [h k member]) rfl rfl
  rw [State.without] at nets ⊢
  dsimp only at nets
  rw [nets, sets]
  rfl

theorem State.without_ended : endTransition (s.without c gone) =
    { s with
      nets := tab fun k => { s.net k with commanded := none }
      monitor := { s.monitor with duty := .none, window := none }
      shift := { s.shift with
        array := .shifting { c with switchSet := c.switchSet.filter fun k => !gone k }
        timer :=
          { counter := if s.shift.timer.counter = 0 then s.settings.stepPeriod else s.shift.timer.counter
            running := false } } } := by
  refine congrArg (fun v : Tower → NetRecord => ({ endTransition (s.without c gone) with nets := tab v } : State))
    (funext fun k => ?_)
  refine (congrArg (fun n : NetRecord => { n with commanded := none }) (State.without_net c gone k)).trans ?_
  split <;> rfl

/-- A tower that keeps SWITCH from ending when the switch wait is over. -/
def State.stuck (s : State) (p : Slot) (k : Tower) : Bool := !s.satisfied p k && !(s.net k).state.isMoving

theorem timeOutMoves_cons (p : Slot) (t : Tower) (ts : List Tower) :
    timeOutMoves p (t :: ts) (s.without c gone) =
      if s.stuck p t then
        if (s.record p).drives t then failTransition .jammed (some t) (s.without c gone)
        else timeOutMoves p ts (s.without c fun k => gone k || k == t)
      else timeOutMoves p ts (s.without c gone) := by
  have stuck : (!(s.satisfied p t || (s.net t).state.isMoving)) = s.stuck p t := by rw [State.stuck, Bool.not_or]
  rw [timeOutMoves, State.without_satisfied, State.without_state, leaveSwitchSet_without, ← stuck]
  cases s.satisfied p t || (s.net t).state.isMoving <;> rfl

/-- R68 where the target drives no tower that is stuck: each of them leaves. -/
theorem timeOutMoves_of_undriven (p : Slot) (ts : List Tower) (free : ∀ k ∈ ts, s.stuck p k = true → (s.record p).drives k = false) :
    timeOutMoves p ts (s.without c gone) = endSwitchIfDone (s.without c fun k => gone k || (ts.contains k && s.stuck p k)) := by
  induction ts generalizing gone with
  | nil =>
    have same : gone = fun k => gone k || (([] : List Tower).contains k && s.stuck p k) :=
      funext fun k => (Bool.or_false _).symm
    rw [timeOutMoves, ← same]
  | cons t ts ih =>
    have later := fun g : Tower → Bool => ih g fun k hk => free k (List.mem_cons_of_mem t hk)
    rw [timeOutMoves_cons]
    by_cases stuck : s.stuck p t = true
    · rw [if_pos stuck, free t List.mem_cons_self stuck, if_neg Bool.false_ne_true, later]
      refine congrArg (fun g => endSwitchIfDone (s.without c g)) (funext fun k => ?_)
      by_cases here : k = t
      · subst here
        simp [stuck]
      · simp [here, beq_eq_false_iff_ne.mpr here]
    · rw [if_neg stuck, later]
      refine congrArg (fun g => endSwitchIfDone (s.without c g)) (funext fun k => ?_)
      by_cases here : k = t
      · subst here
        simp [stuck]
      · simp [here]

/-- R68, R78 at the first tower that is stuck and that the target drives. -/
theorem timeOutMoves_of_driven (p : Slot) (ts : List Tower) {k : Tower}
    (first : ts.find? (fun j => s.stuck p j && (s.record p).drives j) = some k) :
    ∃ g, timeOutMoves p ts (s.without c gone) = failTransition .jammed (some k) (s.without c g) := by
  induction ts generalizing gone with
  | nil => exact nomatch first
  | cons t ts ih =>
    rw [timeOutMoves_cons]
    rw [List.find?_cons] at first
    by_cases stuck : s.stuck p t = true
    · rw [if_pos stuck]
      rw [stuck, Bool.true_and] at first
      by_cases driven : (s.record p).drives t = true
      · rw [driven] at first
        rw [if_pos driven, Option.some.inj first]
        exact ⟨gone, rfl⟩
      · rw [Bool.eq_false_iff.mpr driven] at first
        rw [if_neg driven]
        exact ih _ first
    · rw [Bool.eq_false_iff.mpr stuck, Bool.false_and] at first
      rw [if_neg stuck]
      exact ih _ first

end

theorem switchTimedOut_of_wait {c : Context} {p : Slot} (array : s.shift.array = .shifting c) (phase : c.phase = .switch)
    (target : c.target = some p) (wait : s.settings.travelLimit ≤ c.switchWait) :
    switchTimedOut s = timeOutMoves p c.switchSet s := by
  rw [switchTimedOut, array]
  dsimp only
  rw [phase, target]
  exact if_pos wait

theorem exec_switchWaitTimeout (due : TickEvent.switchWait ∈ s.due) :
    exec .switchWaitTimeout s = .next (switchTimedOut (s.setDue (s.due.erase .switchWait))) :=
  congrArg Host.Outcome.next (takeDue_of_due s due)

/-- Settles O21. -/
theorem switch_wait_timeout : Obligations.Switch_wait_timeout := by
  refine ⟨fun s c p h array phase target header => ?ends, fun s c p due array phase target wait => ?wait⟩
  case ends =>
    rw [endSwitchIfDone_of_switch array phase target, beginCross_eq, crossContext]
    dsimp only
    rw [header]
    rfl
  case wait =>
    intro stuck
    have begun : exec .switchWaitTimeout s = .next (timeOutMoves p c.switchSet
        ((s.setDue (s.due.erase .switchWait)).without c fun _ => false)) := by
      rw [exec_switchWaitTimeout due, State.without_nobody (s := s.setDue (s.due.erase .switchWait)) c array]
      exact congrArg Host.Outcome.next (switchTimedOut_of_wait array phase target wait)
    rw [begun]
    refine ⟨fun free => ?undriven, fun k first => ?driven⟩
    case undriven =>
      rw [timeOutMoves_of_undriven (s := s.setDue (s.due.erase .switchWait)) c _ p c.switchSet free]
      exact congrArg (fun x => Host.Outcome.next (endSwitchIfDone x)) (State.without_congr c (g := stuck) fun k hk => by
        rw [Bool.false_or, List.contains_iff_mem.mpr hk, Bool.true_and]
        rfl)
    case driven =>
      obtain ⟨g, fails⟩ := timeOutMoves_of_driven (s := s.setDue (s.due.erase .switchWait)) c (fun _ => false) p c.switchSet first
      refine ⟨_, List.filter_sublist (p := fun k => !g k), ?_⟩
      rw [fails, failTransition_eq (c := { c with switchSet := c.switchSet.filter fun k => !g k }) rfl target,
        State.without_ended]
      rfl

end Sys2Proof.Machine
end

section
/-! PROOFS. A cause added to a tower (O23), with what the Shift Controller's writes leave standing. -/

namespace Sys2Proof.Machine

/-! ### What no write of the Shift Controller disturbs -/

/-- The networks, the array state and the step timer written. -/
def State.moved (s : State) (nets : Vector NetRecord 12) (array : ArrayState) (timer : StepTimer) : State :=
  { s with nets := nets, shift := { s.shift with array := array, timer := timer } }

/-- A property that the writes of the Shift Controller, as it begins and fails transitions, leave standing. -/
structure Undisturbed (I : State → Prop) : Prop where
  moved : ∀ (s : State) nets array timer, I s → I (s.moved nets array timer)
  raised : ∀ s n, I s → I (raise n s)
  queued : ∀ s q, I s → I (s.setQueue q)
  recorded : ∀ s f, I s → I (s.setLastFailure f)
  cleared : ∀ s, I s → I (clearDuty s)

namespace Undisturbed

variable {I : State → Prop} (u : Undisturbed I)
include u

theorem array {s : State} (h : I s) (a : ArrayState) : I (s.setArray a) := u.moved s s.nets a s.shift.timer h

theorem timer {s : State} (h : I s) (x : StepTimer) : I (s.setTimer x) := u.moved s s.nets s.shift.array x h

theorem net {s : State} (h : I s) (t : Tower) (r : NetRecord) : I (s.setNet t r) :=
  u.moved s (s.nets.set t r) s.shift.array s.shift.timer h

theorem ended {s : State} (h : I s) : I (endTransition s) :=
  u.cleared _ (u.moved s _ s.shift.array (stopTimer s).shift.timer h)

theorem flushed {s : State} (h : I s) : I (flushQueue s) := by
  refine u.queued _ [] ?_
  generalize s.shift.queue = os
  induction os generalizing s with
  | nil => exact h
  | cons o os ih => exact ih (u.raised _ _ h)

theorem safeDropped {s : State} (h : I (clearDuty (flushQueue s))) (p : Slot) (r : Reason) (x : Prior) :
    I (safeDrop p r x s) := by
  have begun (a : ArrayState) : I (startTimer ((clearDuty (flushQueue s)).setArray a)) := u.timer (u.array h a) _
  unfold safeDrop finishSafeDrop
  dsimp only
  split
  · exact u.raised _ _ (u.timer (u.array (begun _) _) _)
  · exact begun _

theorem roomed {s : State} (h : I s) : I (makeRoomAtHead s) := by
  unfold makeRoomAtHead
  split
  · split
    · exact u.queued _ _ (u.raised _ _ h)
    · exact h
  · exact h

theorem asked {s : State} (h : I s) (t : Tower) (q : Pos) : I (requestMove t q s).1 := by
  unfold requestMove
  split
  · exact u.net h _ _
  · split
    · split
      · exact u.net h _ _
      · split
        · exact u.net h _ _
        · exact h
    all_goals exact u.net h _ _

theorem startZeroed {s : State} (h : I s) (t : Tower) : I (zeroStart t s) := by
  unfold zeroStart
  split
  · exact u.array h _
  · exact h

theorem left {s : State} (h : I s) (t : Tower) : I (leaveSwitchSet t s) := by
  unfold leaveSwitchSet
  split
  · split
    · exact u.net (u.array h _) _ _
    · exact h
  · exact h

theorem crossed {s : State} (h : I s) (c : Context) (p : Slot) : I (beginCross c p s) := u.timer (u.array h _) _

theorem switchEnded {s : State} (h : I s) : I (endSwitchIfDone s) := by
  unfold endSwitchIfDone
  split
  · split
    · split
      · exact u.crossed h _ _
      · exact h
    · exact h
  · exact h

section
variable {fail : Reason → Option Tower → State → State} (kept : ∀ r t x, I x → I (fail r t x))
include kept

theorem sent {s : State} (h : I s) (p : Slot) (ts : List Tower) : I (sendMoves fail p ts s).1 := by
  induction ts generalizing s with
  | nil => exact h
  | cons t ts ih =>
    have answered := u.asked h t ((s.record p).wanted t)
    unfold sendMoves
    split
    · next x answer =>
      rw [answer] at answered
      have zeroed := u.startZeroed answered t
      split
      · exact kept _ _ _ zeroed
      · exact ih (u.left zeroed t)
    · next x _ _ answer =>
      rw [answer] at answered
      exact ih answered

theorem begun {s : State} (h : I (clearDuty s)) (st : Start) : I (beginTransitionWith fail st s) := by
  unfold beginTransitionWith beginSwitchWith
  dsimp only
  split
  · exact u.timer (u.array h _) _
  · split
    · exact u.crossed h _ _
    · split
      · next x moves => exact u.switchEnded ((congrArg (fun y : State × Bool => I y.1) moves).mp (u.sent kept (u.array h _) _ _))
      · next x moves => exact (congrArg (fun y : State × Bool => I y.1) moves).mp (u.sent kept (u.array h _) _ _)

end

section
variable {start : Start → State → State} (kept : ∀ st x, I x → I (start st x))
include kept

theorem failureHandled {s : State} (h : I s) (f : Failure) : I (handleFailureWith start f s) := by
  have dropped (x : LastFailure) := u.safeDropped (u.cleared _ (u.flushed (u.recorded _ x h)))
  unfold handleFailureWith
  dsimp only
  split
  · exact dropped _ _ _ _
  · split
    · exact u.raised _ _ (kept _ _ (u.roomed (u.recorded _ _ h)))
    · exact dropped _ _ _ _

theorem transitionFailed {s : State} (h : I s) (d : Option (Tower × Verdict × Nat)) (r : Reason) (t : Option Tower) :
    I (failTransitionWith start d r t s) := by
  unfold failTransitionWith
  split
  · split
    · exact u.failureHandled kept (u.raised _ _ (u.ended h)) _
    · exact h
  · exact h

end

theorem fallbackFailed {s : State} (h : I s) (r : Reason) (t : Option Tower) : I (failFallback r t s) :=
  u.transitionFailed (fun _ _ x => x) h none r t

theorem fallbackBegun {s : State} (h : I s) (st : Start) : I (startFallback st s) :=
  u.begun (fun r t _ x => u.fallbackFailed x r t) (u.cleared _ h) st

theorem failed {s : State} (h : I s) (r : Reason) (t : Option Tower) : I (failTransition r t s) :=
  u.transitionFailed (fun st _ x => u.fallbackBegun x st) h none r t

theorem lost {s : State} (h : I s) (t : Tower) (r : Reason) : I (towerLost t r s) := by
  unfold towerLost
  split
  · dsimp only
    split
    · split
      · exact u.failed (u.startZeroed h _) _ _
      · exact u.switchEnded (u.left (u.startZeroed h _) _)
    · exact u.startZeroed h _
  · exact h

theorem unusable {s : State} (h : I s) (t : Tower) (c : UnusableCause) : I (towerUnusable t c s) := by
  unfold towerUnusable
  split
  · exact u.lost h _ _
  · split
    · exact u.failureHandled (fun st _ x => u.fallbackBegun x st) h _
    · exact h
  · exact h

end Undisturbed

/-- The Shift Controller takes no cause from a tower. -/
theorem undisturbed_causes (k : Tower) (u : UnusableCause) : Undisturbed fun s => (s.tower k).causes.has u = true where
  moved _ _ _ _ h := h
  raised _ _ h := h
  queued _ _ h := h
  recorded _ _ h := h
  cleared _ h := h

theorem dropHeldTarget_link (t : Tower) (s : State) : (dropHeldTarget t s).link = s.link := by
  unfold dropHeldTarget
  split <;> rfl

variable {s : State}

/-! ### A tower lost to a transition (R74) -/

/-- The context of a transition that has lost a tower: its start weight is (0, 0). -/
def Context.shorn (c : Context) (k : Tower) : Context := { c with startA := c.startA.set k Cpx.zero }

section
variable {c : Context} (array : s.shift.array = .shifting c) (k : Tower) (r : Reason)
include array

theorem towerLost_of_none (target : c.target = none) : towerLost k r s = s.setArray (.shifting (c.shorn k)) := by
  rw [towerLost, array]
  dsimp only
  rw [target, zeroStart_eq array]
  rfl

theorem towerLost_of_target {p : Slot} (target : c.target = some p) : towerLost k r s =
    if (s.record p).drives k then failTransition r (some k) (s.setArray (.shifting (c.shorn k)))
    else endSwitchIfDone (leaveSwitchSet k (s.setArray (.shifting (c.shorn k)))) := by
  rw [towerLost, array]
  dsimp only
  rw [target, zeroStart_eq array]
  rfl

theorem towerUnusable_of_shifting (u : UnusableCause) : towerUnusable k u s = towerLost k u.reason s := by
  rw [towerUnusable, array]

end

theorem towerUnusable_of_steady {p : Slot} (array : s.shift.array = .steady p) (k : Tower) (u : UnusableCause) :
    towerUnusable k u s = if (s.record p).drives k then failSteady p u.reason k s else s := by
  rw [towerUnusable, array]

theorem towerUnusable_of_atRest (rest : s.atRest = true) (k : Tower) (u : UnusableCause) : towerUnusable k u s = s := by
  rw [State.atRest] at rest
  rw [towerUnusable]
  split at rest
  · next array => rw [array]
  · next array => rw [array]
  · exact nomatch rest

theorem UnusableCause.reason_eq (u : UnusableCause) :
    u.reason = if u = .jammed ∨ u = .wrongPosition then Reason.jammed else Reason.towerFault := by
  cases u <;> rfl

/-! ### A cause added (R26, R41, R102) -/

theorem addCause_of_has {k : Tower} {u : UnusableCause} (held : (s.tower k).causes.has u = true) : addCause k u s = s :=
  if_pos held

theorem addCause_of_any {k : Tower} {u : UnusableCause} (fresh : (s.tower k).causes.has u = false)
    (any : (s.tower k).causes.any = true) : addCause k u s =
      raise (.towerFault k u) (s.setTower k { s.tower k with causes := (s.tower k).causes.add u }) :=
  (if_neg (Bool.eq_false_iff.mp fresh)).trans (if_pos any)

theorem addCause_of_none {k : Tower} {u : UnusableCause} (none : (s.tower k).causes.any = false) : addCause k u s =
    towerUnusable k u (forceZero k (dropHeldTarget k
      (raise (.towerFault k u) (s.setTower k { s.tower k with causes := (s.tower k).causes.add u })))) := by
  have fresh : ¬(s.tower k).causes.has u = true := fun held => by rw [Causes.any_of_has held] at none; exact nomatch none
  exact (if_neg fresh).trans (if_neg (Bool.eq_false_iff.mp none))

theorem Causes.add_has (c : Causes) (u : UnusableCause) : (c.add u).has u = true := by
  cases u <;> rfl

theorem addCause_has (k : Tower) (u : UnusableCause) (s : State) : ((addCause k u s).tower k).causes.has u = true := by
  have noted : ((s.setTower k { s.tower k with causes := (s.tower k).causes.add u }).tower k).causes.has u = true := by
    rw [setTower_tower, if_pos rfl]
    exact Causes.add_has _ u
  by_cases held : (s.tower k).causes.has u = true
  · rw [addCause_of_has held]
    exact held
  · by_cases any : (s.tower k).causes.any = true
    · rw [addCause_of_any (Bool.eq_false_iff.mpr held) any]
      exact noted
    · rw [addCause_of_none (Bool.eq_false_iff.mpr any)]
      refine (undisturbed_causes k u).unusable ?_ k u
      rw [State.tower, show (forceZero k (dropHeldTarget k _)).link = _ from dropHeldTarget_link k _]
      exact noted

/-- The tower that is not MOVING holds its record; the other holds no target. -/
theorem dropHeldTarget_eq (k : Tower) (s : State) : ∃ nets, dropHeldTarget k s = { s with nets := nets }
    ∧ ({ nets.get k with commanded := none } : NetRecord) = { s.net k with commanded := none } := by
  unfold dropHeldTarget
  split
  · refine ⟨_, rfl, ?_⟩
    rw [get_set, if_pos rfl]
  · exact ⟨s.nets, rfl, rfl⟩

/-- Settles O23. -/
theorem cause_added : Obligations.Cause_added := by
  intro k u s noted released forced reason stopped
  refine ⟨addCause_has k u s, addCause_of_has, fun any fresh => addCause_of_any fresh any, fun none => ?_⟩
  have withdrawn : released = dropHeldTarget k noted := rfl
  have engine : (dropHeldTarget k noted).engine = s.engine := by
    unfold dropHeldTarget
    split <;> rfl
  have silenced : forced = forceZero k (dropHeldTarget k noted) := by
    rw [forceZero, engine]
    rfl
  obtain ⟨nets, left, held⟩ := dropHeldTarget_eq k noted
  have reaches : addCause k u s = towerUnusable k u forced := silenced ▸ addCause_of_none none
  have known : u.reason = reason := u.reason_eq
  clear_value reason
  subst known
  rw [reaches]
  have shape : forced = ({ noted with nets := nets } : State).setLive (s.engine.live.set k ⟨0, 0⟩) := by
    rw [silenced, left]
    rfl
  have stands {a : ArrayState} (h : s.shift.array = a) : forced.shift.array = a := by
    rw [shape]
    exact h
  have patterns : forced.record = s.record := by rw [shape]; rfl
  refine ⟨fun rest => towerUnusable_of_atRest (by rw [shape]; exact rest) k u, fun p array => ?_, fun c array => ?_⟩
  · rw [towerUnusable_of_steady (stands array), patterns]
    exact ⟨fun undriven => if_neg (Bool.eq_false_iff.mp undriven), fun driven => if_pos driven⟩
  · rw [towerUnusable_of_shifting (stands array)]
    refine ⟨towerLost_of_none (stands array) k _, fun p target => ?_⟩
    rw [towerLost_of_target (stands array) k _ target, patterns]
    refine ⟨fun driven => (if_pos driven).trans ?_, fun undriven => (if_neg (Bool.eq_false_iff.mp undriven)).trans ?_⟩
    · rw [failTransition_eq (c := c.shorn k) rfl target, endTransition_eq, shape]
      rfl
    · refine congrArg endSwitchIfDone ?_
      rw [shape]
      exact if_congr Iff.rfl (congrArg (fun n => State.setArray (State.setNet _ k n) _) held) rfl

end Sys2Proof.Machine
end

section
/-! PROOFS. What a network report does (O24). -/

namespace Sys2Proof.Machine

variable {s : State} {k : Tower}

/-! ### A report by the state of the record (R37, R42, R45, R46, R49, R50) -/

section
variable {p q r : Pos}

theorem networkReport_of_settled (state : (s.net k).state = .settled p) : networkReport k (.settled r) s =
    if r = p then s else settleReported k r (addCause k .upset (forceZero k (settleAt k r s))) := by
  simp only [networkReport, state]

theorem networkReport_travel_of_settled (state : (s.net k).state = .settled p) :
    networkReport k .travel s = addCause k .upset (enterDrifting k s) := by
  simp only [networkReport, state]

theorem networkReport_of_moving (state : (s.net k).state = .moving q p) : networkReport k (.settled r) s =
    if r = q then moveCompleted k q s
    else if r = p then s
    else settleReported k r (addCause k .wrongPosition (endMoveAt k r s)) := by
  simp only [networkReport, state]

theorem moveCompleted_eq : moveCompleted k q s = settleReported k q
    (if s.settings.travelWarn < (s.net k).travelTimer then raise (.contactorSlow k (s.net k).travelTimer) (endMoveAt k q s)
    else endMoveAt k q s) := rfl

theorem networkReport_of_astray (state : (s.net k).state = .unknown ∨ (s.net k).state = .jammed ∨ (s.net k).state = .drifting) :
    networkReport k (.settled r) s = settleReported k r (settleAt k r s) := by
  rcases state with state | state | state <;> simp only [networkReport, state]

theorem networkReport_travel_of_unknown (state : (s.net k).state = .unknown) :
    networkReport k .travel s = enterDrifting k s := by
  simp only [networkReport, state]

theorem networkReport_travel_of_travelling
    (state : (s.net k).state.isMoving = true ∨ (s.net k).state = .jammed ∨ (s.net k).state = .drifting) :
    networkReport k .travel s = s := by
  cases stands : (s.net k).state with
  | unknown => simp [stands, NetState.isMoving] at state
  | settled p => simp [stands, NetState.isMoving] at state
  | _ => simp only [networkReport, stands]

end

/-! ### The commanded target at a settle report (R39) -/

section
variable {q r : Pos}

theorem examineTarget_of_none (held : (s.net k).commanded = none) : examineTarget k r s = s := by
  rw [examineTarget, held]

theorem examineTarget_of_some (held : (s.net k).commanded = some q) : examineTarget k r s =
    if q = r then setCommanded k none s
    else if !s.outOfService k && s.live k == Cpx.zero then startMove k r q s
    else moveRefused k (setCommanded k none s) := by
  rw [examineTarget, held]

end

theorem State.outOfService_iff : s.outOfService k = true ↔ (s.tower k).lockout = true ∨ (s.tower k).causes.any = true := by
  rw [State.outOfService, Bool.or_eq_true]
  rfl

theorem enterDrifting_of_none {c : Context} (array : s.shift.array = .shifting c) (target : c.target = none) :
    enterDrifting k s = (forceZero k (s.setNet k { s.net k with state := .drifting })).setArray (.shifting (c.shorn k)) := by
  have stands : (forceZero k (s.setNet k { s.net k with state := .drifting })).shift.array = .shifting c := array
  rw [enterDrifting, towerDrifts, stands]
  dsimp only
  rw [target]
  exact zeroStart_eq stands k

theorem enterDrifting_of_not_none (h : ∀ c, s.shift.array = .shifting c → c.target ≠ none) :
    enterDrifting k s = forceZero k (s.setNet k { s.net k with state := .drifting }) := by
  rw [enterDrifting, towerDrifts]
  split
  · next c array => exact if_neg fun none => h c array (Option.isNone_iff_eq_none.mp none)
  · rfl

/-! ### A held move refused (R74) -/

theorem moveRefused_of_outside (h : ∀ c, s.shift.array = .shifting c → k ∉ c.switchSet) : moveRefused k s = s := by
  rw [moveRefused]
  split
  · next c array => exact if_neg (h c array)
  · rfl

theorem moveRefused_of_member {c : Context} (array : s.shift.array = .shifting c) (member : k ∈ c.switchSet) :
    moveRefused k s = towerLost k (s.tower k).causes.reason s := by
  rw [moveRefused, array]
  exact if_pos member

theorem Causes.reason_eq (c : Causes) :
    c.reason = if c.jammed = true ∨ c.wrongPosition = true then Reason.jammed else Reason.towerFault := by
  rw [Causes.reason]
  exact if_congr (Bool.or_eq_true _ _).to_iff rfl rfl

/-- Settles O24. -/
theorem network_report_rules : Obligations.Network_report_rules := by
  refine ⟨fun k s p q r => ⟨fun state => ?same, fun state moved => ?upset, fun state => networkReport_travel_of_settled state,
      fun state slow => ?slow, fun state inTime => ?inTime, fun state other => ?back, fun state wrong elsewhere => ?wrong,
      networkReport_of_astray, networkReport_travel_of_unknown, networkReport_travel_of_travelling⟩,
    fun k s q r => ?settles, fun k s => ⟨enterDrifting_of_not_none, fun c => enterDrifting_of_none⟩, fun k s => ?refused, fun s h => ?outside⟩
  case same => exact (networkReport_of_settled state).trans (if_pos rfl)
  case upset => exact (networkReport_of_settled state).trans (if_neg moved)
  case slow =>
    rw [networkReport_of_moving state, if_pos rfl, moveCompleted_eq, if_pos slow]
    rfl
  case inTime =>
    rw [networkReport_of_moving state, if_pos rfl, moveCompleted_eq, if_neg (Nat.not_lt.mpr inTime)]
    rfl
  case back => exact (networkReport_of_moving state).trans ((if_neg other).trans (if_pos rfl))
  case wrong => exact (networkReport_of_moving state).trans ((if_neg wrong).trans (if_neg elsewhere))
  case settles =>
    intro released
    refine ⟨fun held => congrArg endSwitchIfDone (examineTarget_of_none held),
      fun held => congrArg endSwitchIfDone ((examineTarget_of_some held).trans (if_pos rfl)), fun held other => ?_⟩
    have examined := (examineTarget_of_some (r := r) held).trans (if_neg other)
    refine ⟨fun unlocked sound zero => ?_, fun refuses => ?_⟩
    · have movable : (!s.outOfService k && s.live k == Cpx.zero) = true := by
        rw [State.outOfService, State.unusable, unlocked, sound, zero]
        rfl
      exact congrArg endSwitchIfDone (examined.trans (if_pos movable))
    · have fixed : ¬(!s.outOfService k && s.live k == Cpx.zero) = true := by
        rw [Bool.and_eq_true, Bool.not_eq_true', beq_iff_eq, not_and]
        intro service zero
        rcases refuses with locked | faulty | driven
        · exact Bool.eq_false_iff.mp service (State.outOfService_iff.mpr (.inl locked))
        · exact Bool.eq_false_iff.mp service (State.outOfService_iff.mpr (.inr faulty))
        · exact driven zero
      exact congrArg endSwitchIfDone (examined.trans (if_neg fixed))
  case refused =>
    refine ⟨moveRefused_of_outside, fun c array member => ?_⟩
    intro shorn reason
    have known : (s.tower k).causes.reason = reason := Causes.reason_eq _
    rw [moveRefused_of_member array member, known]
    refine ⟨towerLost_of_none array k reason, fun p target => ?_⟩
    rw [towerLost_of_target array k reason target]
    refine ⟨fun driven => (if_pos driven).trans ?_, fun undriven => (if_neg (Bool.eq_false_iff.mp undriven)).trans ?_⟩
    · rw [failTransition_eq (c := c.shorn k) rfl target, endTransition_eq]
      rfl
    · rw [leaveSwitchSet_eq (c := c.shorn k) rfl k, if_pos (show k ∈ (c.shorn k).switchSet from member)]
      rfl
  case outside => exact endSwitchIfDone_of_not_switch fun c p array phase target => nomatch (h c array phase).symm.trans target

end Sys2Proof.Machine
end

section
/-! PROOFS. What a completed window does: a STEADY one (O32), a VERIFY one (O33). -/

namespace Sys2Proof.Machine

variable {s : State}

/-! ### The window limit (R87) -/

theorem exec_windowLimitReached (due : TickEvent.windowLimit ∈ s.due) :
    exec .windowLimitReached s = .next (windowTimedOut (s.setDue (s.due.erase .windowLimit))) :=
  congrArg Host.Outcome.next (takeDue_of_due s due)

theorem windowTimedOut_of_limit {w : Window} (window : s.monitor.window = some w) (reached : w.limit ≤ w.timer) :
    windowTimedOut s = completeWindow w s := by
  rw [windowTimedOut, window]
  exact if_pos reached

theorem exec_windowLimitReached_of_limit {w : Window} (due : TickEvent.windowLimit ∈ s.due)
    (window : s.monitor.window = some w) (reached : w.limit ≤ w.timer) :
    exec .windowLimitReached s = .next (completeWindow w (s.setDue (s.due.erase .windowLimit))) :=
  (exec_windowLimitReached due).trans (congrArg Host.Outcome.next (windowTimedOut_of_limit window reached))

theorem completeWindow_of_steady {p : Slot} (duty : s.monitor.duty = .steady p) (w : Window) : completeWindow w s =
    nextSteadyWindow (monitorFailed p (outEvents s w) ((outEvents s w).foldl
      (fun x t => raise (.monitorOut t (w.judge t).2) x)
      ((s.setMonRecords (tab fun t => recordAfter s w true t)).setWindow none))) := by
  simp only [completeWindow, duty]

theorem completeWindow_of_not_steady (duty : ∀ p, s.monitor.duty ≠ .steady p) (w : Window) : completeWindow w s =
    verifyAnswered (verifyAnswer w) (clearDuty (s.setMonRecords (tab fun t => recordAfter s w false t))) := by
  unfold completeWindow
  split
  · next p steady => exact absurd steady (duty p)
  · rfl

/-! ### The records of a judged window (R94, R95) -/

theorem Window.judgeTested_ne_untested (w : Window) (e : TestEntry) : (w.judgeTested e).1 ≠ .untested := by
  by_cases lost : w.referenceLost = true
  · rw [judgeTested_of_referenceLost lost]
    exact nofun
  by_cases complete : w.complete e.tower = true
  · rw [judgeTested_of_complete lost complete]
    dsimp only
    split <;> exact nofun
  · rw [judgeTested_of_short lost (Bool.eq_false_iff.mpr complete)]
    exact nofun

theorem Window.judge_ne_untested {w : Window} {k : Tower} (tested : w.tested k = true) : (w.judge k).1 ≠ .untested := by
  unfold Window.judge
  split
  · split <;> exact nofun
  · next other =>
    split
    · exact w.judgeTested_ne_untested _
    · next none =>
      rw [List.find?_eq_none] at none
      rw [Window.tested, beq_eq_false_iff_ne.mpr (Ne.symm other), Bool.false_or, List.any_eq_true] at tested
      obtain ⟨e, member, found⟩ := tested
      exact absurd found (none e member)

/-- R95 for a tested tower. -/
theorem countAfter_of_tested {w : Window} {k : Tower} (tested : w.tested k = true) (n : Nat) : countAfter n (w.judge k).1 =
    if (w.judge k).1 = .pass then 0 else if n < 15 then n + 1 else n := by
  have judged := Window.judge_ne_untested tested
  unfold countAfter
  split
  · next pass => exact (if_pos pass).symm
  · next none => exact absurd none judged
  · next other _ => exact (if_neg other).symm

/-- The record of a tower after a judged window, with `goes` for whether it goes out in it. -/
theorem recordAfter_eq (s : State) (w : Window) (steady : Bool) (k : Tower) : recordAfter s w steady k =
    if w.tested k then
      { average := w.average k, deviation := (w.judge k).2, outcome := (w.judge k).1,
        failCount := if (w.judge k).1 = .pass then 0
          else if (s.monitor.records.get k).failCount < 15 then (s.monitor.records.get k).failCount + 1
          else (s.monitor.records.get k).failCount,
        out := (w.judge k).1 != .pass && ((s.monitor.records.get k).out || (steady && goesOut s w k)),
        windows := ((s.monitor.records.get k).windows + 1) % 65536 }
    else { s.monitor.records.get k with deviation := 0, outcome := .untested, failCount := 0, out := false } := by
  by_cases tested : w.tested k = true
  · rw [if_pos tested, recordAfter_of_tested s w steady tested, countAfter_of_tested tested]
    by_cases pass : (w.judge k).1 = .pass
    · rw [if_pos pass, pass]
      rfl
    · rw [if_neg pass, if_neg pass, bne_iff_ne.mpr pass, Bool.true_and]
  · exact (if_neg tested).trans (if_neg tested).symm

theorem goesOut_eq (s : State) (w : Window) (k : Tower) : goesOut s w k =
    (w.tested k && (w.judge k).1 != .pass && !(s.monitor.records.get k).out
      && decide (s.settings.failLimit ≤
        if (w.judge k).1 = .pass then 0
        else if (s.monitor.records.get k).failCount < 15 then (s.monitor.records.get k).failCount + 1
        else (s.monitor.records.get k).failCount)) := by
  by_cases tested : w.tested k = true
  · rw [← countAfter_of_tested tested]
    rfl
  · rw [goesOut, Bool.eq_false_iff.mpr tested]
    rfl

/-! ### The notices of a window (R96) -/

theorem raise_notices {s t : State} (same : t.notices = s.notices) (n : Notice) : (raise n t).notices = (raise n s).notices := by
  simp only [raise, State.setNoticeSource, State.noticeSource, same]

/-- Notices raised one after the other reach the notice sources alone. -/
theorem raises_eq {α : Type} (f : α → Notice) (xs : List α) {s t : State} (same : t.notices = s.notices) :
    xs.foldl (fun x a => raise (f a) x) t = { t with notices := (xs.foldl (fun x a => raise (f a) x) s).notices } := by
  induction xs generalizing s t with
  | nil => rw [List.foldl_nil, List.foldl_nil, ← same]
  | cons x xs ih => exact ih (raise_notices same (f x))

/-! ### The failure of the live pattern (R98, R102) -/

theorem undisturbed_idleDuty : Undisturbed fun s => s.monitor.duty = .none where
  moved _ _ _ _ h := h
  raised _ _ h := h
  queued _ _ h := h
  recorded _ _ h := h
  cleared _ _ := rfl

/-- The handling of a failure ends the monitor's duty. -/
theorem handleFailure_duty (f : Failure) (s : State) : (handleFailure f s).monitor.duty = .none := by
  have dropped (x : State) := undisturbed_idleDuty.safeDropped (s := x) rfl
  unfold handleFailure handleFailureWith
  dsimp only
  split
  · exact dropped _ _ _ _
  · split
    · exact undisturbed_idleDuty.begun (fun r t _ x => undisturbed_idleDuty.fallbackFailed x r t) rfl _
    · exact dropped _ _ _ _

theorem nextSteadyWindow_of_none (duty : s.monitor.duty = .none) : nextSteadyWindow s = s := by
  rw [nextSteadyWindow, duty]

theorem nextSteadyWindow_of_steady {p : Slot} (duty : s.monitor.duty = .steady p) :
    nextSteadyWindow s = s.setWindow (if s.mute then none else freshWindow s p) := by
  rw [nextSteadyWindow, duty]
  exact restartWindow_of_duty (by rw [duty]; rfl)

section
variable {p : Slot} {h : Header} (header : (s.record p).header = some h)
include header

theorem monitorFailed_of_quiet {outs : List Tower} (quiet : outs = [] ∨ h.monitorFallback = false) :
    monitorFailed p outs s = s := by
  unfold monitorFailed
  split
  · next t ts x found =>
    obtain rfl : h = x := Option.some.inj (header.symm.trans found)
    rcases quiet with none | off
    · exact nomatch none
    · exact if_neg (Bool.eq_false_iff.mp off)
  · rfl

theorem monitorFailed_of_out {k : Tower} {ks : List Tower} (on : h.monitorFallback = true) :
    monitorFailed p (k :: ks) s = failSteady p .monitorOut k s := by
  simp only [monitorFailed, header, if_pos on]

end

/-- Settles O32. -/
theorem steady_window_judged : Obligations.Steady_window_judged := by
  intro s w p h due window reached duty header count outs records judged
  have gone : outEvents (s.setDue (s.due.erase .windowLimit)) w = outs :=
    List.filter_congr fun k _ => goesOut_eq s w k
  have written : (tab fun k => recordAfter s w true k) = records := by
    refine congrArg tab (funext fun k => ?_)
    have out : goesOut s w k = decide (k ∈ outs) := by
      rw [← gone, outEvents, Bool.eq_iff_iff, decide_eq_true_eq, List.mem_filter]
      exact (and_iff_right (mem_allTowers k)).symm
    rw [recordAfter_eq, out, Bool.true_and]
  have noticed : outs.foldl (fun x t => raise (.monitorOut t (w.judge t).2) x)
      (((s.setDue (s.due.erase .windowLimit)).setMonRecords (tab fun t => recordAfter s w true t)).setWindow none) = judged := by
    have raised := raises_eq (fun k => Notice.monitorOut k (w.judge k).2) outs (s := s) (t := ((s.setDue
      (s.due.erase .windowLimit)).setMonRecords (tab fun t => recordAfter s w true t)).setWindow none) rfl
    rw [written] at raised ⊢
    refine raised.trans ?_
    exact congrArg (fun d => ({ judged with monitor := { judged.monitor with duty := d } } : State)) duty
  rw [exec_windowLimitReached_of_limit due window reached, completeWindow_of_steady (s := s.setDue (s.due.erase .windowLimit)) duty, gone]
  refine ⟨fun quiet => congrArg Host.Outcome.next ?_, fun k ks first on => congrArg Host.Outcome.next ?_⟩
  · refine (congrArg (fun x => nextSteadyWindow (monitorFailed p outs x)) noticed).trans ?_
    rw [monitorFailed_of_quiet (s := judged) header quiet]
    exact nextSteadyWindow_of_steady (s := judged) rfl
  · refine (congrArg (fun x => nextSteadyWindow (monitorFailed p outs x)) noticed).trans ?_
    rw [first, monitorFailed_of_out (s := judged) header on]
    exact nextSteadyWindow_of_none (handleFailure_duty _ _)

/-! ### The answer of a VERIFY window (R72, R73, R97) -/

theorem verifyAnswered_of_verify {c : Context} {p : Slot} (array : s.shift.array = .shifting c) (phase : c.phase = .verify)
    (target : c.target = some p) (a : VerifyAnswer) : verifyAnswered a s =
      match a with
      | none => succeed { c with verifyUsed := c.verifyUsed + 1 } p
          (s.setArray (.shifting { c with verifyUsed := c.verifyUsed + 1 }))
      | some (t, v, d) =>
        if c.verifyUsed + 1 < s.settings.verifyTries then
          setVerifyDuty p (s.setArray (.shifting { c with verifyUsed := c.verifyUsed + 1 }))
        else failVerify t v d (s.setArray (.shifting { c with verifyUsed := c.verifyUsed + 1 })) := by
  rw [verifyAnswered, array]
  dsimp only
  rw [phase, target]
  rfl

theorem verifyAnswer_eq (w : Window) :
    verifyAnswer w = ((allTowers.filter fun k => w.tested k && (w.judge k).1 != .pass).head?).map fun k => (k, w.judge k) := by
  rw [verifyAnswer, List.head?_filter]

theorem succeed_of_tested {c : Context} {p : Slot} (tested : (s.record p).tested = true) : succeed c p s =
    examineQueue (raise (.shiftDone (some p) c.cause c.verifyUsed)
      { s with
        shift := { s.shift with
          array := .steady p, timer := (stopTimer s).shift.timer, fallbackFlag := c.cause == .fallback }
        nets := tab fun k => { s.net k with commanded := none }
        monitor := { duty := .steady p, window := if s.mute then none else freshWindow s p, records := s.monitor.records } }) := by
  rw [succeed, setSteadyDuty_of_tested]
  · rfl
  · exact tested

/-- Settles O33. -/
theorem verify_window_answered : Obligations.Verify_window_answered := by
  intro s w c p due window reached duty array phase target tested failed records next stopped counted
  have written : (tab fun k => recordAfter s w false k) = records := by
    refine congrArg tab (funext fun k => ?_)
    rw [recordAfter_eq, Bool.false_and, Bool.or_false]
  have begun : exec .windowLimitReached s = .next (verifyAnswered (verifyAnswer w)
      { s with due := s.due.erase .windowLimit, monitor := { duty := .none, window := none, records := records } }) := by
    rw [exec_windowLimitReached_of_limit due window reached, completeWindow_of_not_steady, ← written]
    · rfl
    · exact fun q steady => nomatch duty.symm.trans steady
  have answered := verifyAnswered_of_verify (s := { s with
    due := s.due.erase .windowLimit
    monitor := { duty := .none, window := none, records := records } }) (c := c) array phase target (verifyAnswer w)
  rw [begun, answered, verifyAnswer_eq]
  refine ⟨fun passes => ?passes, fun fails more => ?again, fun k ks first last => ?fails⟩
  case passes =>
    rw [show (allTowers.filter fun k => w.tested k && (w.judge k).1 != .pass) = [] from passes]
    exact congrArg Host.Outcome.next (succeed_of_tested tested)
  case again =>
    obtain ⟨k, ks, first⟩ := List.exists_cons_of_ne_nil fails
    rw [show (allTowers.filter fun k => w.tested k && (w.judge k).1 != .pass) = k :: ks from first]
    refine congrArg Host.Outcome.next ((if_pos more).trans ?_)
    exact restartWindow_of_duty rfl
  case fails =>
    rw [show (allTowers.filter fun k => w.tested k && (w.judge k).1 != .pass) = k :: ks from first]
    refine congrArg Host.Outcome.next ((if_neg (Nat.not_lt.mpr last)).trans ?_)
    exact failTransitionWith_eq (c := { c with verifyUsed := c.verifyUsed + 1 }) rfl target startFallback _ _ _

end Sys2Proof.Machine
end

section
/-! PROOFS. A Tower Return Frame taken slot by slot (O26). -/

namespace Sys2Proof.Machine

variable {s : State}

/-! ### The slots of a frame (R117, R118) -/

theorem exec_towerReturnFrame (idle : s.due = []) (bytes : List Byte) :
    exec (.towerReturnFrame bytes) s = .next (towerReturn bytes s) :=
  congrArg (fun x => Host.Outcome.next (towerReturn bytes x)) (settle_of_due_nil s idle)

theorem towerReturn_of_bad {bytes : List Byte} (bad : decodeTowerReturn bytes = none) :
    towerReturn bytes s = { s with link := { s.link with returnErrors := bump s.link.returnErrors } } := by
  rw [towerReturn, bad]

theorem towerReturn_of_slots {bytes : List Byte} {slots : List (Tower × Option SlotReport)}
    (good : decodeTowerReturn bytes = some slots) :
    towerReturn bytes s = slots.foldl (fun x y => returnSlot y.1 y.2 x) s := by
  rw [towerReturn, good]

theorem decodeTowerReturn_towers {bytes : List Byte} {slots : List (Tower × Option SlotReport)}
    (good : decodeTowerReturn bytes = some slots) : slots.map Prod.fst = allTowers := by
  unfold decodeTowerReturn at good
  split at good
  · rw [← Option.some.inj good, List.map_map]
    exact List.map_id _
  · exact nomatch good

theorem setTower_setTower (t : Tower) (a b : TowerEntry) : (s.setTower t a).setTower t b = s.setTower t b := by
  have towers : (s.link.towers.set t a).set t b = s.link.towers.set t b := vec_ext fun k => by
    rw [get_set, get_set, get_set]
    split <;> rfl
  exact congrArg (fun v : Vector TowerEntry 12 => { s with link := { s.link with towers := v } }) towers

/-- R119: the PA fault bit of a slot, noted with what else the slot says of the tower. -/
theorem paReport_storeSlot (k : Tower) (r : SlotReport) (fault : Bool) : paReport k fault (storeSlot k r s) =
    if fault then
      addCause k .paFault (s.setTower k
        { s.tower k with present := true, paFault := fault, silenceTimer := 0, silenceRunning := true, lastSlot := some r })
    else s.setTower k
      { s.tower k with present := true, paFault := fault, silenceTimer := 0, silenceRunning := true, lastSlot := some r } := by
  have stored : (storeSlot k r s).tower k =
      { s.tower k with present := true, silenceTimer := 0, silenceRunning := true, lastSlot := some r } :=
    (setTower_tower _ _ _ _).trans (if_pos rfl)
  rw [paReport, stored, storeSlot, setTower_setTower]

/-! ### A phasor (R86, R87) -/

section
variable {w : Window} {k : Tower} {z : Cpx} (window : s.monitor.window = some w)
include window

theorem phasorReport_of_window : phasorReport k (some z) s =
    if w.tested k && (s.net k).state.isSettled && !w.complete k then
      if (w.count k z).full then completeWindow (w.count k z) s else s.setWindow (some (w.count k z))
    else s := by
  simp only [phasorReport, window]

theorem phasorReport_of_ignored (h : w.tested k = false ∨ (∀ q, (s.net k).state ≠ .settled q) ∨ w.reports ≤ (w.acc.get k).count) :
    phasorReport k (some z) s = s := by
  refine (phasorReport_of_window window).trans (if_neg ?_)
  rw [Bool.and_eq_true, Bool.and_eq_true, isSettled_iff, Bool.not_eq_true']
  rintro ⟨⟨tested, q, settled⟩, short⟩
  rcases h with untested | astray | complete
  · exact Bool.noConfusion (untested.symm.trans tested)
  · exact astray q settled
  · exact of_decide_eq_false short complete

theorem phasorReport_of_counted (tested : w.tested k = true) (settled : ∃ q, (s.net k).state = .settled q)
    (short : (w.acc.get k).count < w.reports) : phasorReport k (some z) s =
      if (w.count k z).full then completeWindow (w.count k z) s else s.setWindow (some (w.count k z)) := by
  refine (phasorReport_of_window window).trans (if_pos ?_)
  rw [Bool.and_eq_true, Bool.and_eq_true, isSettled_iff, Bool.not_eq_true']
  exact ⟨⟨tested, settled⟩, decide_eq_false (Nat.not_le.mpr short)⟩

end

theorem Window.full_iff (w : Window) : w.full = true ↔ ∀ j, w.tested j = true → w.reports ≤ (w.acc.get j).count := by
  have each (j : Tower) : (!w.tested j || w.complete j) = true ↔ (w.tested j = true → w.reports ≤ (w.acc.get j).count) := by
    rw [Window.complete, Bool.or_eq_true, Bool.not_eq_true', decide_eq_true_eq, ← Bool.not_eq_true, imp_iff_not_or]
  rw [Window.full, List.all_eq_true]
  exact ⟨fun h j => (each j).mp (h j (mem_allTowers j)), fun h j _ => (each j).mpr (h j)⟩

/-- A completed window is judged by neither its timer nor the place it is kept in. -/
theorem completeWindow_of_copy (w : Window) (n : Nat) (x : Option Window) :
    completeWindow { w with timer := n } (s.setWindow x) = completeWindow w s := by
  cases duty : s.monitor.duty with
  | steady p =>
    rw [completeWindow_of_steady duty, completeWindow_of_steady (s := s.setWindow x) duty]
    rfl
  | _ =>
    rw [completeWindow_of_not_steady, completeWindow_of_not_steady]
    · rfl
    · exact fun p h => nomatch duty.symm.trans h
    · exact fun p h => nomatch duty.symm.trans h

/-- Settles O26. -/
theorem tower_return_frame_taken : Obligations.Tower_return_frame_taken := by
  refine ⟨fun s bytes idle bad => ?bad, fun s bytes slots idle good => ?good, fun s k => rfl, fun s k r out => ?out,
    fun s k r inside => ?filled, fun s k => ⟨?empty, fun z => ⟨fun none => ?noWindow, fun w window => ?window⟩⟩⟩
  case bad => rw [exec_towerReturnFrame idle, towerReturn_of_bad bad]
  case good =>
    rw [exec_towerReturnFrame idle, towerReturn_of_slots good]
    exact ⟨rfl, decodeTowerReturn_towers good⟩
  case out => exact if_neg fun inside => Nat.not_lt.mpr out (of_decide_eq_true inside)
  case filled =>
    refine (if_pos (decide_eq_true inside)).trans ?_
    rw [paReport_storeSlot]
  case empty =>
    unfold phasorReport
    split
    · next found => exact nomatch found
    · rfl
  case noWindow => simp only [phasorReport, none]
  case window =>
    intro a counted
    refine ⟨phasorReport_of_ignored window, fun tested settled short => ?_⟩
    rw [phasorReport_of_counted window tested settled short]
    refine ⟨fun ⟨j, member, lacks⟩ => if_neg ?_, fun all => ?_⟩
    · rw [Window.full_iff]
      exact fun all => Nat.not_le.mpr lacks (all j member)
    · have judged := exec_windowLimitReached_of_limit
        (s := (s.setWindow (some { counted with timer := w.limit })).setDue (.windowLimit :: s.due))
        List.mem_cons_self rfl (Nat.le_refl w.limit)
      rw [setDue_due, List.erase_cons_head] at judged
      rw [if_pos ((Window.full_iff _).mpr all)]
      exact judged.trans (congrArg Host.Outcome.next (completeWindow_of_copy counted w.limit _))

end Sys2Proof.Machine
end

section
/-! PROOFS. How a transition begins, and how a failure is answered (O28). -/

namespace Sys2Proof.Machine

variable {s : State}

/-! ### How a transition begins (R63, R66, R67, R70) -/

theorem mem_switchSetFor {p : Slot} {k : Tower} : k ∈ switchSetFor s p ↔
    s.inArray k = true ∧ s.outOfService k = false ∧ s.satisfied p k = false := by
  simp [switchSetFor, mem_allTowers, and_assoc]

section
variable (fail : Reason → Option Tower → State → State) (st : Start)

theorem beginTransitionWith_drop {k : Tower} (member : k ∈ switchSetFor s st.target) (driven : s.live k ≠ Cpx.zero) :
    beginTransitionWith fail st s = beginDrop (startContext st s) (clearDuty s) := by
  have moving : ((startContext st (clearDuty s)).switchSet.any fun t => (clearDuty s).live t != Cpx.zero) = true :=
    List.any_eq_true.mpr ⟨k, member, (bne_iff_ne (a := s.live k)).mpr driven⟩
  exact if_pos moving

theorem beginTransitionWith_cross (none : switchSetFor s st.target = []) :
    beginTransitionWith fail st s = beginCross (startContext st s) st.target (clearDuty s) := by
  have undriven : ¬((startContext st (clearDuty s)).switchSet.any fun t => (clearDuty s).live t != Cpx.zero) = true := by
    rw [show (startContext st (clearDuty s)).switchSet = [] from none]
    exact nofun
  exact (if_neg undriven).trans (if_pos (List.isEmpty_iff.mpr none))

theorem beginTransitionWith_switch (some : switchSetFor s st.target ≠ [])
    (zero : ∀ k ∈ switchSetFor s st.target, s.live k = Cpx.zero) :
    beginTransitionWith fail st s = beginSwitchWith fail (startContext st s) st.target (clearDuty s) := by
  have undriven : ¬((startContext st (clearDuty s)).switchSet.any fun t => (clearDuty s).live t != Cpx.zero) = true := by
    rw [List.any_eq_true]
    rintro ⟨k, member, driven⟩
    exact bne_iff_ne.mp driven (zero k member)
  exact (if_neg undriven).trans (if_neg fun empty => some (List.isEmpty_iff.mp empty))

end

/-- A tower that has just been asked to move is not where it is wanted, unless it stood there. -/
theorem NetRecord.requested_state_ne {n : NetRecord} {q : Pos} (h : n.state ≠ .settled q) :
    (n.requested q).state ≠ .settled q := by
  unfold NetRecord.requested
  split
  · next p state =>
    split
    · exact h
    · exact nofun
  · exact h

/-- SWITCH of a transition whose towers answer: each of them is asked, and none is satisfied yet. -/
theorem beginSwitchWith_of_unsatisfied (fail : Reason → Option Tower → State → State) (c : Context) (p : Slot)
    (target : c.target = some p) (some : c.switchSet ≠ []) (ready : ∀ t ∈ c.switchSet, s.Movable t)
    (astray : ∀ t ∈ c.switchSet, s.satisfied p t = false) : beginSwitchWith fail c p s =
      { s with
        shift := { s.shift with
          array := .shifting { c with phase := .switch, stepCount := 0, stepTotal := none, switchWait := 0 } }
        nets := tab fun k => if k ∈ c.switchSet then (s.net k).requested ((s.record p).wanted k) else s.net k } := by
  obtain ⟨t, ts, first⟩ := List.exists_cons_of_ne_nil some
  have member : t ∈ c.switchSet := first ▸ List.mem_cons_self
  rw [beginSwitchWith_of_movable fail c p ready]
  refine (endSwitchIfDone_of_switch
    (c := { c with phase := .switch, stepCount := 0, stepTotal := none, switchWait := 0 }) rfl rfl target).trans
    (if_neg fun all => ?_)
  have there := beq_iff_eq.mp (List.all_eq_true.mp all t member)
  have asked : (tab fun k => if k ∈ c.switchSet then (s.net k).requested ((s.record p).wanted k) else s.net k).get t =
      (s.net t).requested ((s.record p).wanted t) := (get_tab _ t).trans (if_pos member)
  refine NetRecord.requested_state_ne (fun h => ?_) ((congrArg NetRecord.state asked).symm.trans there)
  exact Bool.noConfusion ((astray t member).symm.trans (beq_iff_eq.mpr h))

/-- R67 for a switch set with no JAMMED tower. -/
theorem beginTransitionWith_asks (fail : Reason → Option Tower → State → State) (st : Start)
    (some : switchSetFor s st.target ≠ []) (zero : ∀ k ∈ switchSetFor s st.target, s.live k = Cpx.zero)
    (standing : ∀ k ∈ switchSetFor s st.target, (s.net k).state ≠ .jammed) : beginTransitionWith fail st s =
      { clearDuty s with
        shift := { s.shift with
          array := .shifting { startContext st s with phase := .switch, stepTotal := none } }
        nets := tab fun k =>
          if k ∈ switchSetFor s st.target then (s.net k).requested ((s.record st.target).wanted k) else s.net k } := by
  rw [beginTransitionWith_switch fail st some zero]
  refine beginSwitchWith_of_unsatisfied fail (startContext st s) st.target rfl some (fun k member => ?_) fun k member => ?_
  · obtain ⟨inside, service, _⟩ := mem_switchSetFor.mp member
    exact ⟨of_decide_eq_true inside, service, zero k member, standing k member⟩
  · obtain ⟨_, _, astray⟩ := mem_switchSetFor.mp member
    exact astray

theorem State.standing_of_law (law : s.NetworkLaw) {k : Tower} (service : s.outOfService k = false) :
    (s.net k).state ≠ .jammed := fun jam => by
  obtain ⟨_, cause⟩ := law k
  simp [State.outOfService, State.unusable, Causes.any, cause jam] at service

/-- What every transition begins with, whichever phase it begins in. -/
theorem beginTransition_begun (law : s.NetworkLaw) (st : Start) : ∃ c nets timer, beginTransition st s =
    { clearDuty s with nets := nets, shift := { s.shift with array := .shifting c, timer := timer } }
      ∧ c.target = some st.target ∧ c.cause = st.cause ∧ c.origin = some st.origin ∧ c.source = st.source
      ∧ c.prior = st.prior := by
  by_cases driven : ∃ k ∈ switchSetFor s st.target, s.live k ≠ Cpx.zero
  · obtain ⟨k, member, driven⟩ := driven
    exact ⟨_, _, _, beginTransitionWith_drop failTransition st member driven, rfl, rfl, rfl, rfl, rfl⟩
  · by_cases none : switchSetFor s st.target = []
    · exact ⟨_, _, _, beginTransitionWith_cross failTransition st none, rfl, rfl, rfl, rfl, rfl⟩
    · refine ⟨_, _, _, beginTransitionWith_asks failTransition st none (fun k member => ?_) fun k member => ?_,
        rfl, rfl, rfl, rfl, rfl⟩
      · exact not_not.mp fun moving => driven ⟨k, member, moving⟩
      · obtain ⟨_, service, _⟩ := mem_switchSetFor.mp member
        exact State.standing_of_law law service

/-! ### Room at the head of the queue (R59) -/

theorem makeRoomAtHead_eq (s : State) : makeRoomAtHead s =
    if s.shift.queue.length < 4 then s
    else
      match s.shift.queue.getLast? with
      | some o => (raise (.orderDiscarded o.target o.cause o.origin) s).setQueue s.shift.queue.dropLast
      | none => s := by
  by_cases room : s.shift.queue.length < 4
  · exact (if_neg (Nat.not_le.mpr room)).trans (if_pos room).symm
  · refine ((if_pos (Nat.not_lt.mp room)).trans ?_).trans (if_neg room).symm
    cases s.shift.queue.getLast? <;> rfl

/-- Room at the head writes the queue, and at most raises ORDER_DISCARDED. -/
theorem makeRoomAtHead_parts (s : State) : (∃ notices, makeRoomAtHead s =
    { s with
      notices := notices
      shift := { s.shift with
        queue := if s.shift.queue.length < 4 then s.shift.queue else s.shift.queue.dropLast } })
    ∧ ∀ i, i ≠ 12 → (makeRoomAtHead s).noticeSource i = s.noticeSource i := by
  rw [makeRoomAtHead_eq]
  by_cases room : s.shift.queue.length < 4
  · rw [if_pos room, if_pos room]
    exact ⟨⟨s.notices, rfl⟩, fun _ _ => rfl⟩
  rw [if_neg room, if_neg room]
  cases tail : s.shift.queue.getLast? with
  | some o => exact ⟨⟨_, rfl⟩, fun i other => (raise_noticeSource s _ i).trans (if_neg other)⟩
  | none =>
    rw [List.getLast?_eq_none_iff.mp tail] at room
    exact absurd (by decide) room

/-! ### A failure (R103, R105, R107, R108, R109, R111) -/

/-- The flushed queue leaves its notices. -/
theorem safeDrop_eq (p : Slot) (r : Reason) (prior : Prior) (s : State) :
    let flushed := s.shift.queue.foldl (fun x o => raise (.orderDiscarded o.target o.cause o.origin) x) s
    let dropped : State :=
      { flushed with
        monitor := { s.monitor with duty := .none, window := none }
        shift := { s.shift with queue := [], timer := { counter := s.settings.stepPeriod, running := true } } }
    safeDrop p r prior s =
      if s.allZero then
        raise (.safeEntered p r) ({ dropped with
          shift := { dropped.shift with array := .safe, timer := { counter := s.settings.stepPeriod, running := false } } })
      else dropped.setArray (.shifting (safeDropContext p r prior s)) := by
  intro flushed dropped
  have notices : flushed = { s with notices := flushed.notices } :=
    raises_eq (fun o : Order => Notice.orderDiscarded o.target o.cause o.origin) s.shift.queue rfl
  have queue : flushQueue s = { s with notices := flushed.notices, shift := { s.shift with queue := [] } } :=
    congrArg (fun x => State.setQueue x []) notices
  have begun : dropped = { s with
      notices := flushed.notices
      monitor := { s.monitor with duty := .none, window := none }
      shift := { s.shift with queue := [], timer := { counter := s.settings.stepPeriod, running := true } } } :=
    congrArg (fun x : State => ({ x with
      monitor := { s.monitor with duty := .none, window := none }
      shift := { s.shift with queue := [], timer := { counter := s.settings.stepPeriod, running := true } } } : State)) notices
  rw [begun, safeDrop, queue]
  by_cases zero : s.allZero = true
  · refine (if_pos zero).trans (.trans ?_ (if_pos zero).symm)
    rw [finishSafeDrop, stopTimer_of_reloaded rfl]
    rfl
  · exact (if_neg zero).trans (if_neg zero).symm

theorem handleFailure_of_second {f : Failure} (second : f.cause = some .fallback ∨ s.shift.fallbackFlag = true) :
    handleFailure f s = safeDrop f.pattern .secondFailure f.prior
      (s.setLastFailure (failureRecord f s.shift.fallbackFlag 0 none (some .secondFailure))) :=
  if_pos second

/-- Settles O28. -/
theorem failure_handling : Obligations.Failure_handling := by
  refine ⟨fun f s => ?handled, fun p r prior s => safeDrop_eq p r prior s⟩
  intro record
  refine ⟨handleFailure_of_second, fun cause flag n found => handleFailure_of_resolve_none s cause flag found,
    fun cause flag law g n found => ?_⟩
  intro recorded roomy
  have room : makeRoomAtHead recorded = roomy := makeRoomAtHead_eq recorded
  have lawful : roomy.NetworkLaw := room ▸ makeRoomAtHead_networkLaw recorded law
  have begins : handleFailure f s = raise (.fallbackStarted f.pattern g f.reason) (beginTransition
      { source := f.source, prior := f.prior, target := g, cause := .fallback, origin := .pattern f.pattern } roomy) := by
    rw [handleFailure_of_resolve_some s cause flag found, ← startFallback_eq_beginTransition _ _ lawful, ← room]
    rfl
  refine ⟨begins, ?_⟩
  obtain ⟨c, nets, timer, begun, target, because, origin, source, prior⟩ := beginTransition_begun lawful
    { source := f.source, prior := f.prior, target := g, cause := .fallback, origin := .pattern f.pattern }
  obtain ⟨⟨notices, parts⟩, sources⟩ := makeRoomAtHead_parts recorded
  have kept : roomy.noticeSource 3 = s.noticeSource 3 := room ▸ sources 3 (by decide)
  rw [room] at parts
  clear_value roomy
  rw [begins, begun]
  refine ⟨c, rfl, target, because, origin, source, prior, ?_, ?_, ?_, ?_, ?_⟩
  · rw [parts]; rfl
  · rw [parts]; exact flag
  · rw [parts]; rfl
  · rw [parts]; rfl
  · exact (raise_noticeSource _ _ _).trans ((if_pos rfl).trans (congrArg (NoticeSource.raised · _) kept))

end Sys2Proof.Machine
end

section
/-! PROOFS. The queue examined and the orders that begin transitions (O49). -/

namespace Sys2Proof.Machine

variable {s : State}

/-! ### Where the queue is not examined (R61) -/

/-- An examination of the queue has nothing to do. -/
def State.Examined (s : State) : Prop := s.shifting = true ∨ s.shift.queue = []

theorem shifting_of_array {c : Context} (array : s.shift.array = .shifting c) : s.shifting = true := by
  rw [State.shifting, array]

theorem zeroStart_shifting (h : s.shifting = true) (t : Tower) : (zeroStart t s).shifting = true := by
  unfold zeroStart
  split
  · rfl
  · exact h

theorem leaveSwitchSet_shifting (h : s.shifting = true) (t : Tower) : (leaveSwitchSet t s).shifting = true := by
  unfold leaveSwitchSet
  split
  · split
    · rfl
    · exact h
  · exact h

theorem endSwitchIfDone_examined (h : s.Examined) : (endSwitchIfDone s).Examined := by
  unfold endSwitchIfDone
  split
  · split
    · split
      · exact .inl rfl
      · exact h
    · exact h
  · exact h

theorem safeDrop_examined (p : Slot) (r : Reason) (x : Prior) (s : State) : (safeDrop p r x s).Examined := by
  unfold safeDrop finishSafeDrop
  dsimp only
  split
  · exact .inr rfl
  · exact .inl rfl

theorem handleFailureWith_examined {start : Start → State → State}
    (begun : ∀ st x, x.shift.array = s.shift.array → (start st x).Examined) (f : Failure) :
    (handleFailureWith start f s).Examined := by
  unfold handleFailureWith
  dsimp only
  split
  · exact safeDrop_examined _ _ _ _
  · split
    · exact begun _ _ (makeRoomAtHead_array (s.setLastFailure _))
    · exact safeDrop_examined _ _ _ _

theorem raise_endTransition_array (n : Notice) (s : State) : (raise n (endTransition s)).shift.array = s.shift.array := rfl

theorem failTransitionWith_examined {start : Start → State → State} (shifting : s.shifting = true)
    (begun : ∀ st x, x.shift.array = s.shift.array → (start st x).Examined) (d : Option (Tower × Verdict × Nat)) (r : Reason)
    (t : Option Tower) : (failTransitionWith start d r t s).Examined := by
  unfold failTransitionWith
  split
  · split
    · exact handleFailureWith_examined (fun st x array => begun st x (array.trans (raise_endTransition_array _ s))) _
    · exact .inl shifting
  · exact .inl shifting

section
variable {fail : Reason → Option Tower → State → State} (failed : ∀ r t x, x.shifting = true → (fail r t x).Examined)
include failed

theorem sendMoves_examined (p : Slot) (ts : List Tower) (h : s.shifting = true) : (sendMoves fail p ts s).1.Examined := by
  induction ts generalizing s with
  | nil => exact .inl h
  | cons t ts ih =>
    have asked : (requestMove t ((s.record p).wanted t) s).1.shifting = true := by
      rw [State.shifting, requestMove_shift]
      exact h
    unfold sendMoves
    split
    · next x answer =>
      rw [answer] at asked
      have zeroed := zeroStart_shifting asked t
      split
      · exact failed _ _ _ zeroed
      · exact ih (leaveSwitchSet_shifting zeroed t)
    · next x _ _ answer =>
      rw [answer] at asked
      exact ih asked

/-- A transition that begins leaves the array shifting, or the queue flushed. -/
theorem beginTransitionWith_examined (st : Start) (s : State) : (beginTransitionWith fail st s).Examined := by
  unfold beginTransitionWith beginSwitchWith
  dsimp only
  split
  · exact .inl rfl
  · split
    · exact .inl rfl
    · have sent (a : Context) := sendMoves_examined failed st.target (switchSetFor s st.target)
        (s := (clearDuty s).setArray (.shifting a)) rfl
      split
      · next x moves => exact endSwitchIfDone_examined ((congrArg (·.1.Examined) moves).mp (sent _))
      · next x moves => exact (congrArg (·.1.Examined) moves).mp (sent _)

end

theorem startFallback_examined (st : Start) (s : State) : (startFallback st s).Examined :=
  beginTransitionWith_examined (fun r t x shifting => failTransitionWith_examined shifting
    (fun _ y array => .inl (by rw [State.shifting, array]; exact shifting)) none r t) st s

theorem beginTransition_examined (st : Start) (s : State) : (beginTransition st s).Examined :=
  beginTransitionWith_examined (fun r t _ shifting => failTransitionWith_examined shifting
    (fun st y _ => startFallback_examined st y) none r t) st s

/-! ### The queue examined (R61, R62) -/

theorem examineFrom_of_examined (h : s.Examined) (n : Nat) : examineFrom n s = s := by
  cases n with
  | zero => rfl
  | succ n =>
    rw [examineFrom]
    rcases h with shifting | empty
    · exact if_pos shifting
    · rw [empty]
      exact ite_self s

theorem examineQueue_of_examined (h : s.Examined) : examineQueue s = s := examineFrom_of_examined h _

theorem examineFrom_eq {n : Nat} (h : s.Examined ∨ s.shift.queue.length = n) : examineFrom n s = examineQueue s := by
  rcases h with done | rfl
  · rw [examineFrom_of_examined done, examineQueue_of_examined done]
  · rfl

theorem examineQueue_cons {o : Order} {rest : List Order} (still : s.shifting = false) (queue : s.shift.queue = o :: rest) :
    examineQueue s = examineFrom rest.length
      (if s.shift.array = .safe ∧ o.cause ≠ .manual then discardOrder o (s.setQueue rest) else startRoutine o (s.setQueue rest)) := by
  rw [examineQueue, queue, List.length_cons, examineFrom, if_neg (Bool.eq_false_iff.mp still), queue]
  exact (apply_ite (examineFrom rest.length) _ _ _).symm

/-- R62's rows for a routine order removed from the head. -/
theorem startRoutine_of_target {o : Order} {p : Slot} (target : o.target = some p) : startRoutine o s =
    if (s.record p).isReady = false then raise (.shiftFailed (some p) .notReady none) s
    else if s.usable p = false then raise (.shiftFailed (some p) .notUsable none) s
    else if s.shift.array = .steady p then (raise (.shiftDone (some p) o.cause 0) s).setFlag false
    else beginTransition
      { source := (restingStart s.shift.array).1, prior := (restingStart s.shift.array).2, target := p, cause := o.cause,
        origin := o.origin } s := by
  rw [startRoutine, target]

theorem startRoutine_examined (o : Order) (s : State) :
    (startRoutine o s).Examined ∨ (startRoutine o s).shift.queue = s.shift.queue := by
  unfold startRoutine
  split
  · exact .inr rfl
  · split
    · exact .inr rfl
    · split
      · exact .inr rfl
      · split
        · exact .inr rfl
        · exact .inl (beginTransition_examined _ _)

theorem examineQueue_of_head {o : Order} {rest : List Order} (still : s.shifting = false) (queue : s.shift.queue = o :: rest) :
    examineQueue s = examineQueue
      (if s.shift.array = .safe ∧ o.cause ≠ .manual then discardOrder o (s.setQueue rest) else startRoutine o (s.setQueue rest)) := by
  refine (examineQueue_cons still queue).trans (examineFrom_eq ?_)
  split
  · exact .inr rfl
  · exact (startRoutine_examined o (s.setQueue rest)).imp_right (congrArg List.length)

/-! ### An order offered (R57) -/

theorem offerOrder_of_turned_away {o : Order} (h : offerAnswer o s ≠ .entered) : offerOrder o s = s := if_neg h

theorem offerOrder_of_entered {o : Order} (h : offerAnswer o s = .entered) :
    offerOrder o s = examineQueue (s.setQueue (s.shift.queue ++ [o])) := if_pos h

theorem offerOrder_eq (o : Order) : offerOrder o s =
    if o.cause ≠ .manual ∧ s.safeOrDropping = true then s
    else if (∃ x ∈ s.shift.queue.getLast?, x.target = o.target) ∨ 4 ≤ s.shift.queue.length then s
    else if s.shifting = true then s.setQueue (s.shift.queue ++ [o])
    else examineQueue (s.setQueue (s.shift.queue ++ [o])) := by
  have merges : (s.shift.queue.getLast?.map fun tail => tail.target) = some o.target ↔
      ∃ x ∈ s.shift.queue.getLast?, x.target = o.target := Option.map_eq_some_iff
  by_cases skipped : o.cause ≠ .manual ∧ s.safeOrDropping = true
  · have answer : offerAnswer o s = .skipped := if_pos skipped
    rw [if_pos skipped, offerOrder_of_turned_away (by rw [answer]; exact nofun)]
  rw [if_neg skipped]
  by_cases merged : ∃ x ∈ s.shift.queue.getLast?, x.target = o.target
  · have answer : offerAnswer o s = .merged := (if_neg skipped).trans (if_pos (merges.mpr merged))
    rw [if_pos (.inl merged), offerOrder_of_turned_away (by rw [answer]; exact nofun)]
  by_cases full : 4 ≤ s.shift.queue.length
  · have answer : offerAnswer o s = .full := (if_neg skipped).trans ((if_neg (mt merges.mp merged)).trans (if_pos full))
    rw [if_pos (.inr full), offerOrder_of_turned_away (by rw [answer]; exact nofun)]
  have answer : offerAnswer o s = .entered := (if_neg skipped).trans ((if_neg (mt merges.mp merged)).trans (if_neg full))
  rw [if_neg (not_or.mpr ⟨merged, full⟩), offerOrder_of_entered answer]
  by_cases shifting : s.shifting = true
  · rw [if_pos shifting]
    exact examineQueue_of_examined (.inl shifting)
  · exact (if_neg shifting).symm

theorem restingStart_eq (a : ArrayState) : restingStart a = (a.livePattern,
    match a with
    | .steady _ => .steady
    | .safe => .safe
    | _ => .noPattern) := by
  cases a <;> rfl

/-- R40, R41 for a network that is not where it is wanted. -/
theorem NetRecord.requested_of_astray {n : NetRecord} {w : Pos} (astray : n.state ≠ .settled w) : n.requested w =
    match n.state with
    | .settled q => { state := .moving w q, commanded := some w, travelTimer := 0, lastTravel := n.lastTravel }
    | _ => { n with commanded := some w } := by
  obtain ⟨state, commanded, travel, last⟩ := n
  cases state with
  | settled q =>
    exact (NetRecord.requested_of_settled rfl w).trans (if_neg fun there => astray (congrArg NetState.settled there))
  | _ => rfl

/-- Settles O49. -/
theorem order_rules : Obligations.Order_rules := by
  refine ⟨fun o s => offerOrder_eq o, fun s => examineQueue_of_examined, fun s o rest p still queue target => ?head,
    fun st s h header => ?begins⟩
  case head =>
    intro removed
    have start := restingStart_eq s.shift.array
    rw [examineQueue_of_head still queue, startRoutine_of_target target, discardOrder, target,
      show (s.setQueue rest).shift.array = s.shift.array from rfl, start]
    rfl
  case begins =>
    intro set context idle ramp
    have chosen : switchSetFor s st.target = set := by
      refine List.filter_congr fun k _ => ?_
      rw [State.outOfService, Bool.not_or, ← Bool.and_assoc]
      rfl
    have ramped : (match (s.record st.target).header with | some h => h.ramp | none => 0) = h.ramp := by rw [header]
    refine ⟨fun ⟨k, member, driven⟩ => ?drop, fun none => ?cross, fun some zero standing => ?switch⟩
    case drop =>
      rw [beginTransition, beginTransitionWith_drop failTransition st (chosen ▸ member) driven, beginDrop, startContext, chosen]
      rfl
    case cross =>
      rw [beginTransition, beginTransitionWith_cross failTransition st (chosen.trans none), beginCross_eq, startContext, chosen,
        crossContext, ← ramped]
      rfl
    case switch =>
      rw [beginTransition, beginTransitionWith_asks failTransition st (chosen ▸ some) (chosen ▸ zero) (chosen ▸ standing),
        startContext, chosen]
      refine congrArg (fun v : Tower → NetRecord => ({ idle with
        shift := { s.shift with array := .shifting { context with phase := .switch, stepTotal := none } }
        nets := tab v } : State)) (funext fun k => ?_)
      by_cases member : k ∈ set
      · rw [if_pos member, if_pos member]
        obtain ⟨_, _, astray⟩ := mem_switchSetFor.mp (chosen ▸ member)
        exact NetRecord.requested_of_astray (beq_eq_false_iff_ne.mp astray)
      · rw [if_neg member, if_neg member]

end Sys2Proof.Machine
end

section
/-! PROOFS. Abort (O51). -/

namespace Sys2Proof.Machine

variable {s : State}

/-! ### A drop to zero begun by an ABORT (R77) -/

theorem abortToZero_of_live (live : s.allZero = false) (prior : Prior) (origin : Origin) : abortToZero prior origin s =
    { s with
      shift := { s.shift with
        array := .shifting (zeroAbortContext prior origin s), timer := { counter := s.settings.stepPeriod, running := true } } } :=
  if_neg (Bool.eq_false_iff.mp live)

/-- With no weight left the prior state is taken at once, by a state that holds no target. -/
theorem abortToZero_of_zero (zero : s.allZero = true) (prior : Prior) (origin : Origin)
    (withdrawn : (tab fun k => { s.net k with commanded := none }) = s.nets) : abortToZero prior origin s =
      examineQueue (raise (.shiftDone none .abort 0)
        { s with
          shift := { s.shift with
            array := prior.resting, timer := { counter := s.settings.stepPeriod, running := false } } }) := by
  rw [abortToZero_eq]
  refine (if_pos zero).trans (congrArg (fun x => examineQueue (raise _ x)) ?_)
  rw [stopTimer_of_reloaded rfl]
  exact congrArg (fun v => ({ s with
    nets := v
    shift := { s.shift with
      array := prior.resting, timer := { counter := s.settings.stepPeriod, running := false } } } : State)) withdrawn

/-- Targets withdrawn once are withdrawn. -/
theorem withdrawn_of_withdrawAll {u : State} (h : u.nets = (withdrawAll s).nets) :
    (tab fun k => { u.net k with commanded := none }) = u.nets := by
  have each (k : Tower) : u.net k = { s.net k with commanded := none } :=
    (congrArg (fun v : Vector NetRecord 12 => v.get k) h).trans (withdrawAll_net s k)
  rw [h]
  exact congrArg tab (funext fun k => congrArg (fun n : NetRecord => { n with commanded := none }) (each k))

theorem reqAbort_of_still (still : s.shifting = false) (p : Port) : reqAbort p s = refused .badState s := by
  unfold reqAbort
  split
  · next c array => exact Bool.noConfusion (still.symm.trans (shifting_of_array array))
  · rfl

theorem reqAbort_of_shifting {c : Context} (array : s.shift.array = .shifting c) (p : Port) : reqAbort p s =
    if c.cause = .safe then refused .badState s else answered (abortTransition c p s) [] := by
  rw [reqAbort, array]

/-- Settles O51. -/
theorem abort_rules : Obligations.Abort_rules := by
  intro s p tag admits
  have asks : exec (.abort p tag) s = placed p 17 tag (reqAbort p s) := arrives_eq_placed admits 17 tag _
  rw [asks]
  refine ⟨fun still => ?still, fun c array => ⟨fun safe => ?safe, fun plain => ?plain⟩⟩
  case still => rw [reqAbort_of_still still]; rfl
  case safe => rw [reqAbort_of_shifting array, if_pos safe]; rfl
  case plain =>
    intro ended room answer
    have taken : placed p 17 tag (reqAbort p s) = answer (startAbort c.source c.prior (.port p) room) := by
      rw [reqAbort_of_shifting array, if_neg plain, abortTransition, endTransition_eq, makeRoomAtHead_eq]
      rfl
    obtain ⟨⟨notices, parts⟩, _⟩ := makeRoomAtHead_parts ended
    rw [makeRoomAtHead_eq ended] at parts
    have shape : room = { ended with
      notices := notices
      shift := { ended.shift with
        queue := if s.shift.queue.length < 4 then s.shift.queue else s.shift.queue.dropLast } } := parts
    have zero : room.allZero = s.allZero := by rw [shape]; rfl
    have usable (q : Slot) : room.usable q = s.usable q := by rw [shape]; rfl
    have settings : room.settings = s.settings := by rw [shape]; rfl
    have withdrawn : (tab fun k => { room.net k with commanded := none }) = room.nets :=
      withdrawn_of_withdrawAll (s := s) (by rw [shape]; rfl)
    rw [taken]
    refine ⟨fun none empty => congrArg answer ?_, fun none live => congrArg answer ?_, fun q source => congrArg answer ?_⟩
    · rw [none, startAbort, abortToZero_of_zero (zero.trans empty) _ _ withdrawn, settings]
      cases c.prior <;> rfl
    · rw [none, startAbort, abortToZero_of_live (zero.trans live), zeroAbortContext, shape]
      rfl
    · rw [source, startAbort, usable]

end Sys2Proof.Machine
end
